-- ==== Sys2Proof/Word.lean ====
section
/-! DEFINITION. Word.lean: the two word types of the SM83 (00_scope.md R7, R10). All arithmetic on them wraps (R18). -/

namespace Sys2Proof

/-- `u8` of R10: a register, a memory byte, an instruction byte. -/
abbrev Byte := BitVec 8

/-- `u16` of R10: PC, SP, a register pair, an address (R82: every address is reduced modulo 2^16). -/
abbrev Word := BitVec 16

end Sys2Proof
end

