-- ==== Sys2Proof/Machine/Bits.lean ====
section
/-! DEFINITION. Machine/Bits.lean: byte halves, pairs, sign extension and single bits (00_scope.md R9, R11). -/

namespace Sys2Proof.Machine

/-- `lo(w) = w[7:0]` (R11). -/
def lo (w : Word) : Byte := w.extractLsb' 0 8

/-- `hi(w) = w[15:8]` (R11). -/
def hi (w : Word) : Byte := w.extractLsb' 8 8

/-- `h:l = (h << 8) | l` (R11): how the source defines a register pair. -/
def pair (h l : Byte) : Word := (h.setWidth 16 <<< 8) ||| l.setWidth 16

/-- `sext_16(e)` (R11) as the 16-bit word that adds it modulo 2^16. -/
def sext16 (e : Byte) : Word := e.signExtend 16

/-- `v` with bit `i` set to `b`. -/
def putBit (v : Byte) (i : Nat) (b : Bool) : Byte :=
  if b then v ||| (1#8 <<< i) else v &&& ~~~(1#8 <<< i)

/-- The byte whose bit 0 is `b` and whose other bits are 0: a flag read as 0 or 1 (R13). -/
def bitByte (b : Bool) : Byte := if b then 1#8 else 0#8

end Sys2Proof.Machine
end

