-- ==== Sys2Proof/Syntax.lean ====
section
/-! DEFINITION. Syntax.lean: the instructions, one constructor per row of `spec/opcode_table.json` (30_encoding.md R129 to R131), the
operand kinds (R124 to R126), and the instructions of one shape indexed by their operands, for statements about a family. -/

namespace Sys2Proof

/-- A register operand: the r8 codes other than 6 (R124). -/
inductive Reg where
  | b | c | d | e | h | l | a
deriving DecidableEq, Repr

/-- The 8-bit operand r8 (R124). -/
inductive R8 where
  | reg (r : Reg)
  | memHL
deriving DecidableEq, Repr

/-- The operand r16 (R125). -/
inductive R16 where
  | bc | de | hl | sp
deriving DecidableEq, Repr

/-- The operand r16stk (R125). -/
inductive R16Stk where
  | bc | de | hl | af
deriving DecidableEq, Repr

/-- The operand r16mem (R125). -/
inductive R16Mem where
  | bc | de | hlInc | hlDec
deriving DecidableEq, Repr

/-- The condition cc (R126). -/
inductive Cond where
  | nz | z | nc | c
deriving DecidableEq, Repr

/-- The ALU operations in the order of field y (R260). -/
inductive AluOp where
  | add | adc | sub | sbc | and | xor | or | cp
deriving DecidableEq, Repr

/-- The ALU's second operand (R260). -/
inductive AluSrc where
  | reg (r : Reg)
  | memHL
  | imm (n : Byte)
deriving DecidableEq, Repr

/-- The rotates, shifts and SWAP in the order of field y (R130). -/
inductive RotOp where
  | rlc | rrc | rl | rr | sla | sra | swap | srl
deriving DecidableEq, Repr

/-- The instructions: the rows of `spec/opcode_table.json` that carry operand bytes, then the others, each in the table's order (the
compiler wants constructors with fields first). `e` is the raw displacement byte `b1`; `n : Word` and `a : Word` are
`b2:b1` (R15). STOP keeps its ignored second byte (R412, log 15). `prefixCB` is the table's row for the byte 0xCB, which is "a prefix,
not an instruction" (R128, log 8). -/
inductive Instr where
  | ldBCn16 (n : Word)
  | ldBn8 (n : Byte)
  | ldMema16SP (a : Word)
  | ldCn8 (n : Byte)
  | stop (ignored : Byte)
  | ldDEn16 (n : Word)
  | ldDn8 (n : Byte)
  | jre8 (e : Byte)
  | ldEn8 (n : Byte)
  | jrNZe8 (e : Byte)
  | ldHLn16 (n : Word)
  | ldHn8 (n : Byte)
  | jrZe8 (e : Byte)
  | ldLn8 (n : Byte)
  | jrNCe8 (e : Byte)
  | ldSPn16 (n : Word)
  | ldMemHLn8 (n : Byte)
  | jrCe8 (e : Byte)
  | ldAn8 (n : Byte)
  | jpNZa16 (a : Word)
  | jpa16 (a : Word)
  | callNZa16 (a : Word)
  | addAn8 (n : Byte)
  | jpZa16 (a : Word)
  | prefixCB (b1 : Byte)
  | callZa16 (a : Word)
  | calla16 (a : Word)
  | adcAn8 (n : Byte)
  | jpNCa16 (a : Word)
  | callNCa16 (a : Word)
  | subn8 (n : Byte)
  | jpCa16 (a : Word)
  | callCa16 (a : Word)
  | sbcAn8 (n : Byte)
  | ldhMema8A (a : Byte)
  | andn8 (n : Byte)
  | addSPe8 (e : Byte)
  | ldMema16A (a : Word)
  | xorn8 (n : Byte)
  | ldhAMema8 (a : Byte)
  | orn8 (n : Byte)
  | ldHLSPe8 (e : Byte)
  | ldAMema16 (a : Word)
  | cpn8 (n : Byte)
  | nop
  | ldMemBCA
  | incBC
  | incB
  | decB
  | rlca
  | addHLBC
  | ldAMemBC
  | decBC
  | incC
  | decC
  | rrca
  | ldMemDEA
  | incDE
  | incD
  | decD
  | rla
  | addHLDE
  | ldAMemDE
  | decDE
  | incE
  | decE
  | rra
  | ldMemHLIncA
  | incHL
  | incH
  | decH
  | daa
  | addHLHL
  | ldAMemHLInc
  | decHL
  | incL
  | decL
  | cpl
  | ldMemHLDecA
  | incSP
  | incMemHL
  | decMemHL
  | scf
  | addHLSP
  | ldAMemHLDec
  | decSP
  | incA
  | decA
  | ccf
  | ldBB
  | ldBC
  | ldBD
  | ldBE
  | ldBH
  | ldBL
  | ldBMemHL
  | ldBA
  | ldCB
  | ldCC
  | ldCD
  | ldCE
  | ldCH
  | ldCL
  | ldCMemHL
  | ldCA
  | ldDB
  | ldDC
  | ldDD
  | ldDE
  | ldDH
  | ldDL
  | ldDMemHL
  | ldDA
  | ldEB
  | ldEC
  | ldED
  | ldEE
  | ldEH
  | ldEL
  | ldEMemHL
  | ldEA
  | ldHB
  | ldHC
  | ldHD
  | ldHE
  | ldHH
  | ldHL
  | ldHMemHL
  | ldHA
  | ldLB
  | ldLC
  | ldLD
  | ldLE
  | ldLH
  | ldLL
  | ldLMemHL
  | ldLA
  | ldMemHLB
  | ldMemHLC
  | ldMemHLD
  | ldMemHLE
  | ldMemHLH
  | ldMemHLL
  | halt
  | ldMemHLA
  | ldAB
  | ldAC
  | ldAD
  | ldAE
  | ldAH
  | ldAL
  | ldAMemHL
  | ldAA
  | addAB
  | addAC
  | addAD
  | addAE
  | addAH
  | addAL
  | addAMemHL
  | addAA
  | adcAB
  | adcAC
  | adcAD
  | adcAE
  | adcAH
  | adcAL
  | adcAMemHL
  | adcAA
  | subB
  | subC
  | subD
  | subE
  | subH
  | subL
  | subMemHL
  | subA
  | sbcAB
  | sbcAC
  | sbcAD
  | sbcAE
  | sbcAH
  | sbcAL
  | sbcAMemHL
  | sbcAA
  | andB
  | andC
  | andD
  | andE
  | andH
  | andL
  | andMemHL
  | andA
  | xorB
  | xorC
  | xorD
  | xorE
  | xorH
  | xorL
  | xorMemHL
  | xorA
  | orB
  | orC
  | orD
  | orE
  | orH
  | orL
  | orMemHL
  | orA
  | cpB
  | cpC
  | cpD
  | cpE
  | cpH
  | cpL
  | cpMemHL
  | cpA
  | retNZ
  | popBC
  | pushBC
  | rst00
  | retZ
  | ret
  | rst08
  | retNC
  | popDE
  | undefD3
  | pushDE
  | rst10
  | retC
  | reti
  | undefDB
  | undefDD
  | rst18
  | popHL
  | ldhMemCA
  | undefE3
  | undefE4
  | pushHL
  | rst20
  | jpHL
  | undefEB
  | undefEC
  | undefED
  | rst28
  | popAF
  | ldhAMemC
  | di
  | undefF4
  | pushAF
  | rst30
  | ldSPHL
  | ei
  | undefFC
  | undefFD
  | rst38
  | rlcB
  | rlcC
  | rlcD
  | rlcE
  | rlcH
  | rlcL
  | rlcMemHL
  | rlcA
  | rrcB
  | rrcC
  | rrcD
  | rrcE
  | rrcH
  | rrcL
  | rrcMemHL
  | rrcA
  | rlB
  | rlC
  | rlD
  | rlE
  | rlH
  | rlL
  | rlMemHL
  | rlA
  | rrB
  | rrC
  | rrD
  | rrE
  | rrH
  | rrL
  | rrMemHL
  | rrA
  | slaB
  | slaC
  | slaD
  | slaE
  | slaH
  | slaL
  | slaMemHL
  | slaA
  | sraB
  | sraC
  | sraD
  | sraE
  | sraH
  | sraL
  | sraMemHL
  | sraA
  | swapB
  | swapC
  | swapD
  | swapE
  | swapH
  | swapL
  | swapMemHL
  | swapA
  | srlB
  | srlC
  | srlD
  | srlE
  | srlH
  | srlL
  | srlMemHL
  | srlA
  | bit0B
  | bit0C
  | bit0D
  | bit0E
  | bit0H
  | bit0L
  | bit0MemHL
  | bit0A
  | bit1B
  | bit1C
  | bit1D
  | bit1E
  | bit1H
  | bit1L
  | bit1MemHL
  | bit1A
  | bit2B
  | bit2C
  | bit2D
  | bit2E
  | bit2H
  | bit2L
  | bit2MemHL
  | bit2A
  | bit3B
  | bit3C
  | bit3D
  | bit3E
  | bit3H
  | bit3L
  | bit3MemHL
  | bit3A
  | bit4B
  | bit4C
  | bit4D
  | bit4E
  | bit4H
  | bit4L
  | bit4MemHL
  | bit4A
  | bit5B
  | bit5C
  | bit5D
  | bit5E
  | bit5H
  | bit5L
  | bit5MemHL
  | bit5A
  | bit6B
  | bit6C
  | bit6D
  | bit6E
  | bit6H
  | bit6L
  | bit6MemHL
  | bit6A
  | bit7B
  | bit7C
  | bit7D
  | bit7E
  | bit7H
  | bit7L
  | bit7MemHL
  | bit7A
  | res0B
  | res0C
  | res0D
  | res0E
  | res0H
  | res0L
  | res0MemHL
  | res0A
  | res1B
  | res1C
  | res1D
  | res1E
  | res1H
  | res1L
  | res1MemHL
  | res1A
  | res2B
  | res2C
  | res2D
  | res2E
  | res2H
  | res2L
  | res2MemHL
  | res2A
  | res3B
  | res3C
  | res3D
  | res3E
  | res3H
  | res3L
  | res3MemHL
  | res3A
  | res4B
  | res4C
  | res4D
  | res4E
  | res4H
  | res4L
  | res4MemHL
  | res4A
  | res5B
  | res5C
  | res5D
  | res5E
  | res5H
  | res5L
  | res5MemHL
  | res5A
  | res6B
  | res6C
  | res6D
  | res6E
  | res6H
  | res6L
  | res6MemHL
  | res6A
  | res7B
  | res7C
  | res7D
  | res7E
  | res7H
  | res7L
  | res7MemHL
  | res7A
  | set0B
  | set0C
  | set0D
  | set0E
  | set0H
  | set0L
  | set0MemHL
  | set0A
  | set1B
  | set1C
  | set1D
  | set1E
  | set1H
  | set1L
  | set1MemHL
  | set1A
  | set2B
  | set2C
  | set2D
  | set2E
  | set2H
  | set2L
  | set2MemHL
  | set2A
  | set3B
  | set3C
  | set3D
  | set3E
  | set3H
  | set3L
  | set3MemHL
  | set3A
  | set4B
  | set4C
  | set4D
  | set4E
  | set4H
  | set4L
  | set4MemHL
  | set4A
  | set5B
  | set5C
  | set5D
  | set5E
  | set5H
  | set5L
  | set5MemHL
  | set5A
  | set6B
  | set6C
  | set6D
  | set6E
  | set6H
  | set6L
  | set6MemHL
  | set6A
  | set7B
  | set7C
  | set7D
  | set7E
  | set7H
  | set7L
  | set7MemHL
  | set7A
deriving DecidableEq, Repr

namespace Instr

/-- `LD r,r'` (R200): 49 instructions. -/
def ldRR : Reg → Reg → Instr
  | .b, .b => .ldBB
  | .b, .c => .ldBC
  | .b, .d => .ldBD
  | .b, .e => .ldBE
  | .b, .h => .ldBH
  | .b, .l => .ldBL
  | .b, .a => .ldBA
  | .c, .b => .ldCB
  | .c, .c => .ldCC
  | .c, .d => .ldCD
  | .c, .e => .ldCE
  | .c, .h => .ldCH
  | .c, .l => .ldCL
  | .c, .a => .ldCA
  | .d, .b => .ldDB
  | .d, .c => .ldDC
  | .d, .d => .ldDD
  | .d, .e => .ldDE
  | .d, .h => .ldDH
  | .d, .l => .ldDL
  | .d, .a => .ldDA
  | .e, .b => .ldEB
  | .e, .c => .ldEC
  | .e, .d => .ldED
  | .e, .e => .ldEE
  | .e, .h => .ldEH
  | .e, .l => .ldEL
  | .e, .a => .ldEA
  | .h, .b => .ldHB
  | .h, .c => .ldHC
  | .h, .d => .ldHD
  | .h, .e => .ldHE
  | .h, .h => .ldHH
  | .h, .l => .ldHL
  | .h, .a => .ldHA
  | .l, .b => .ldLB
  | .l, .c => .ldLC
  | .l, .d => .ldLD
  | .l, .e => .ldLE
  | .l, .h => .ldLH
  | .l, .l => .ldLL
  | .l, .a => .ldLA
  | .a, .b => .ldAB
  | .a, .c => .ldAC
  | .a, .d => .ldAD
  | .a, .e => .ldAE
  | .a, .h => .ldAH
  | .a, .l => .ldAL
  | .a, .a => .ldAA

/-- `LD r,n8` (R201). -/
def ldRN : Reg → Byte → Instr
  | .b, n => .ldBn8 n
  | .c, n => .ldCn8 n
  | .d, n => .ldDn8 n
  | .e, n => .ldEn8 n
  | .h, n => .ldHn8 n
  | .l, n => .ldLn8 n
  | .a, n => .ldAn8 n

/-- `LD r,(HL)` (R202). -/
def ldRMem : Reg → Instr
  | .b => .ldBMemHL
  | .c => .ldCMemHL
  | .d => .ldDMemHL
  | .e => .ldEMemHL
  | .h => .ldHMemHL
  | .l => .ldLMemHL
  | .a => .ldAMemHL

/-- `LD (HL),r` (R203). -/
def ldMemR : Reg → Instr
  | .b => .ldMemHLB
  | .c => .ldMemHLC
  | .d => .ldMemHLD
  | .e => .ldMemHLE
  | .h => .ldMemHLH
  | .l => .ldMemHLL
  | .a => .ldMemHLA

/-- `LD A,(r16mem)` (R205, R206, R215, R216). -/
def ldAMem : R16Mem → Instr
  | .bc => .ldAMemBC
  | .de => .ldAMemDE
  | .hlInc => .ldAMemHLInc
  | .hlDec => .ldAMemHLDec

/-- `LD (r16mem),A` (R207, R208, R217, R218). -/
def ldMemA : R16Mem → Instr
  | .bc => .ldMemBCA
  | .de => .ldMemDEA
  | .hlInc => .ldMemHLIncA
  | .hlDec => .ldMemHLDecA

/-- `LD r16,n16` (R240). -/
def ldR16 : R16 → Word → Instr
  | .bc, n => .ldBCn16 n
  | .de, n => .ldDEn16 n
  | .hl, n => .ldHLn16 n
  | .sp, n => .ldSPn16 n

/-- `PUSH r16stk` (R244). -/
def push : R16Stk → Instr
  | .bc => .pushBC
  | .de => .pushDE
  | .hl => .pushHL
  | .af => .pushAF

/-- `POP r16stk` (R245, R246). -/
def pop : R16Stk → Instr
  | .bc => .popBC
  | .de => .popDE
  | .hl => .popHL
  | .af => .popAF

/-- The ALU instructions on A (R263 to R286): 72 instructions. -/
def alu : AluOp → AluSrc → Instr
  | .add, .reg .b => .addAB
  | .add, .reg .c => .addAC
  | .add, .reg .d => .addAD
  | .add, .reg .e => .addAE
  | .add, .reg .h => .addAH
  | .add, .reg .l => .addAL
  | .add, .reg .a => .addAA
  | .add, .memHL => .addAMemHL
  | .add, .imm n => .addAn8 n
  | .adc, .reg .b => .adcAB
  | .adc, .reg .c => .adcAC
  | .adc, .reg .d => .adcAD
  | .adc, .reg .e => .adcAE
  | .adc, .reg .h => .adcAH
  | .adc, .reg .l => .adcAL
  | .adc, .reg .a => .adcAA
  | .adc, .memHL => .adcAMemHL
  | .adc, .imm n => .adcAn8 n
  | .sub, .reg .b => .subB
  | .sub, .reg .c => .subC
  | .sub, .reg .d => .subD
  | .sub, .reg .e => .subE
  | .sub, .reg .h => .subH
  | .sub, .reg .l => .subL
  | .sub, .reg .a => .subA
  | .sub, .memHL => .subMemHL
  | .sub, .imm n => .subn8 n
  | .sbc, .reg .b => .sbcAB
  | .sbc, .reg .c => .sbcAC
  | .sbc, .reg .d => .sbcAD
  | .sbc, .reg .e => .sbcAE
  | .sbc, .reg .h => .sbcAH
  | .sbc, .reg .l => .sbcAL
  | .sbc, .reg .a => .sbcAA
  | .sbc, .memHL => .sbcAMemHL
  | .sbc, .imm n => .sbcAn8 n
  | .and, .reg .b => .andB
  | .and, .reg .c => .andC
  | .and, .reg .d => .andD
  | .and, .reg .e => .andE
  | .and, .reg .h => .andH
  | .and, .reg .l => .andL
  | .and, .reg .a => .andA
  | .and, .memHL => .andMemHL
  | .and, .imm n => .andn8 n
  | .xor, .reg .b => .xorB
  | .xor, .reg .c => .xorC
  | .xor, .reg .d => .xorD
  | .xor, .reg .e => .xorE
  | .xor, .reg .h => .xorH
  | .xor, .reg .l => .xorL
  | .xor, .reg .a => .xorA
  | .xor, .memHL => .xorMemHL
  | .xor, .imm n => .xorn8 n
  | .or, .reg .b => .orB
  | .or, .reg .c => .orC
  | .or, .reg .d => .orD
  | .or, .reg .e => .orE
  | .or, .reg .h => .orH
  | .or, .reg .l => .orL
  | .or, .reg .a => .orA
  | .or, .memHL => .orMemHL
  | .or, .imm n => .orn8 n
  | .cp, .reg .b => .cpB
  | .cp, .reg .c => .cpC
  | .cp, .reg .d => .cpD
  | .cp, .reg .e => .cpE
  | .cp, .reg .h => .cpH
  | .cp, .reg .l => .cpL
  | .cp, .reg .a => .cpA
  | .cp, .memHL => .cpMemHL
  | .cp, .imm n => .cpn8 n

/-- `INC r` and `INC (HL)` (R287, R288). -/
def inc8 : R8 → Instr
  | .reg .b => .incB
  | .reg .c => .incC
  | .reg .d => .incD
  | .reg .e => .incE
  | .reg .h => .incH
  | .reg .l => .incL
  | .memHL => .incMemHL
  | .reg .a => .incA

/-- `DEC r` and `DEC (HL)` (R289, R290). -/
def dec8 : R8 → Instr
  | .reg .b => .decB
  | .reg .c => .decC
  | .reg .d => .decD
  | .reg .e => .decE
  | .reg .h => .decH
  | .reg .l => .decL
  | .memHL => .decMemHL
  | .reg .a => .decA

/-- `ADD HL,r16` (R321). -/
def addHLR16 : R16 → Instr
  | .bc => .addHLBC
  | .de => .addHLDE
  | .hl => .addHLHL
  | .sp => .addHLSP

/-- `INC r16` (R322). -/
def inc16 : R16 → Instr
  | .bc => .incBC
  | .de => .incDE
  | .hl => .incHL
  | .sp => .incSP

/-- `DEC r16` (R323). -/
def dec16 : R16 → Instr
  | .bc => .decBC
  | .de => .decDE
  | .hl => .decHL
  | .sp => .decSP

/-- The rotates, shifts and SWAP of the prefixed space (R345 to R360): 64 instructions. -/
def rot : RotOp → R8 → Instr
  | .rlc, .reg .b => .rlcB
  | .rlc, .reg .c => .rlcC
  | .rlc, .reg .d => .rlcD
  | .rlc, .reg .e => .rlcE
  | .rlc, .reg .h => .rlcH
  | .rlc, .reg .l => .rlcL
  | .rlc, .memHL => .rlcMemHL
  | .rlc, .reg .a => .rlcA
  | .rrc, .reg .b => .rrcB
  | .rrc, .reg .c => .rrcC
  | .rrc, .reg .d => .rrcD
  | .rrc, .reg .e => .rrcE
  | .rrc, .reg .h => .rrcH
  | .rrc, .reg .l => .rrcL
  | .rrc, .memHL => .rrcMemHL
  | .rrc, .reg .a => .rrcA
  | .rl, .reg .b => .rlB
  | .rl, .reg .c => .rlC
  | .rl, .reg .d => .rlD
  | .rl, .reg .e => .rlE
  | .rl, .reg .h => .rlH
  | .rl, .reg .l => .rlL
  | .rl, .memHL => .rlMemHL
  | .rl, .reg .a => .rlA
  | .rr, .reg .b => .rrB
  | .rr, .reg .c => .rrC
  | .rr, .reg .d => .rrD
  | .rr, .reg .e => .rrE
  | .rr, .reg .h => .rrH
  | .rr, .reg .l => .rrL
  | .rr, .memHL => .rrMemHL
  | .rr, .reg .a => .rrA
  | .sla, .reg .b => .slaB
  | .sla, .reg .c => .slaC
  | .sla, .reg .d => .slaD
  | .sla, .reg .e => .slaE
  | .sla, .reg .h => .slaH
  | .sla, .reg .l => .slaL
  | .sla, .memHL => .slaMemHL
  | .sla, .reg .a => .slaA
  | .sra, .reg .b => .sraB
  | .sra, .reg .c => .sraC
  | .sra, .reg .d => .sraD
  | .sra, .reg .e => .sraE
  | .sra, .reg .h => .sraH
  | .sra, .reg .l => .sraL
  | .sra, .memHL => .sraMemHL
  | .sra, .reg .a => .sraA
  | .swap, .reg .b => .swapB
  | .swap, .reg .c => .swapC
  | .swap, .reg .d => .swapD
  | .swap, .reg .e => .swapE
  | .swap, .reg .h => .swapH
  | .swap, .reg .l => .swapL
  | .swap, .memHL => .swapMemHL
  | .swap, .reg .a => .swapA
  | .srl, .reg .b => .srlB
  | .srl, .reg .c => .srlC
  | .srl, .reg .d => .srlD
  | .srl, .reg .e => .srlE
  | .srl, .reg .h => .srlH
  | .srl, .reg .l => .srlL
  | .srl, .memHL => .srlMemHL
  | .srl, .reg .a => .srlA

/-- The one of eight instructions that a 3-bit field selects. -/
def pick (b : BitVec 3) (i0 i1 i2 i3 i4 i5 i6 i7 : Instr) : Instr :=
  [i0, i1, i2, i3, i4, i5, i6, i7].getD b.toNat i7

/-- `BIT b,r8` (R361, R362): 64 instructions. -/
def bit (b : BitVec 3) : R8 → Instr
  | .reg .b => pick b .bit0B .bit1B .bit2B .bit3B .bit4B .bit5B .bit6B .bit7B
  | .reg .c => pick b .bit0C .bit1C .bit2C .bit3C .bit4C .bit5C .bit6C .bit7C
  | .reg .d => pick b .bit0D .bit1D .bit2D .bit3D .bit4D .bit5D .bit6D .bit7D
  | .reg .e => pick b .bit0E .bit1E .bit2E .bit3E .bit4E .bit5E .bit6E .bit7E
  | .reg .h => pick b .bit0H .bit1H .bit2H .bit3H .bit4H .bit5H .bit6H .bit7H
  | .reg .l => pick b .bit0L .bit1L .bit2L .bit3L .bit4L .bit5L .bit6L .bit7L
  | .memHL => pick b .bit0MemHL .bit1MemHL .bit2MemHL .bit3MemHL .bit4MemHL .bit5MemHL .bit6MemHL .bit7MemHL
  | .reg .a => pick b .bit0A .bit1A .bit2A .bit3A .bit4A .bit5A .bit6A .bit7A

/-- `RES b,r8` (R363, R364): 64 instructions. -/
def res (b : BitVec 3) : R8 → Instr
  | .reg .b => pick b .res0B .res1B .res2B .res3B .res4B .res5B .res6B .res7B
  | .reg .c => pick b .res0C .res1C .res2C .res3C .res4C .res5C .res6C .res7C
  | .reg .d => pick b .res0D .res1D .res2D .res3D .res4D .res5D .res6D .res7D
  | .reg .e => pick b .res0E .res1E .res2E .res3E .res4E .res5E .res6E .res7E
  | .reg .h => pick b .res0H .res1H .res2H .res3H .res4H .res5H .res6H .res7H
  | .reg .l => pick b .res0L .res1L .res2L .res3L .res4L .res5L .res6L .res7L
  | .memHL => pick b .res0MemHL .res1MemHL .res2MemHL .res3MemHL .res4MemHL .res5MemHL .res6MemHL .res7MemHL
  | .reg .a => pick b .res0A .res1A .res2A .res3A .res4A .res5A .res6A .res7A

/-- `SET b,r8` (R365, R366): 64 instructions. -/
def set (b : BitVec 3) : R8 → Instr
  | .reg .b => pick b .set0B .set1B .set2B .set3B .set4B .set5B .set6B .set7B
  | .reg .c => pick b .set0C .set1C .set2C .set3C .set4C .set5C .set6C .set7C
  | .reg .d => pick b .set0D .set1D .set2D .set3D .set4D .set5D .set6D .set7D
  | .reg .e => pick b .set0E .set1E .set2E .set3E .set4E .set5E .set6E .set7E
  | .reg .h => pick b .set0H .set1H .set2H .set3H .set4H .set5H .set6H .set7H
  | .reg .l => pick b .set0L .set1L .set2L .set3L .set4L .set5L .set6L .set7L
  | .memHL => pick b .set0MemHL .set1MemHL .set2MemHL .set3MemHL .set4MemHL .set5MemHL .set6MemHL .set7MemHL
  | .reg .a => pick b .set0A .set1A .set2A .set3A .set4A .set5A .set6A .set7A

/-- `JP cc,a16` (R382). -/
def jpCC : Cond → Word → Instr
  | .nz, a => .jpNZa16 a
  | .z, a => .jpZa16 a
  | .nc, a => .jpNCa16 a
  | .c, a => .jpCa16 a

/-- `JR cc,e8` (R385). -/
def jrCC : Cond → Byte → Instr
  | .nz, e => .jrNZe8 e
  | .z, e => .jrZe8 e
  | .nc, e => .jrNCe8 e
  | .c, e => .jrCe8 e

/-- `CALL cc,a16` (R387). -/
def callCC : Cond → Word → Instr
  | .nz, a => .callNZa16 a
  | .z, a => .callZa16 a
  | .nc, a => .callNCa16 a
  | .c, a => .callCa16 a

/-- `RET cc` (R389). -/
def retCC : Cond → Instr
  | .nz => .retNZ
  | .z => .retZ
  | .nc => .retNC
  | .c => .retC

/-- `RST vec` (R391), `vec = y * 8`. -/
def rst (y : BitVec 3) : Instr :=
  pick y .rst00 .rst08 .rst10 .rst18 .rst20 .rst28 .rst30 .rst38

/-- The 11 undefined opcodes (R131). -/
def undefined : List Instr :=
  [.undefD3, .undefDB, .undefDD, .undefE3, .undefE4, .undefEB, .undefEC, .undefED, .undefF4, .undefFC, .undefFD]

end Instr

end Sys2Proof
end

