-- ==== Sys2Proof/WellFormed.lean ====
section
/-! DEFINITION. WellFormed.lean: which terms of `Instr` are instructions. Every operand's range is its type's; what is left to check is
that the byte 0xCB alone is "a prefix, not an instruction" (30_encoding.md R128). -/

namespace Sys2Proof

/-- False of the prefix row only: 0xCB with its second byte is one of the 256 extended instructions, each a constructor of its own
(log 8). -/
def Instr.wellFormed : Instr → Bool
  | .prefixCB _ => false
  | _ => true

end Sys2Proof
end

