-- ==== Sys2Proof/Decode.lean ====
section
/-! DEFINITION. Decode.lean: decoding, total on any bytes (30_encoding.md R120 to R133), and the encoder, written from the same maps.
The maps are those of R129 and R130, row by row (hi nibble down, lo nibble across). -/

namespace Sys2Proof

open Sys2Proof.Machine (lo hi pair)

/-! ### Fields and operand codes -/

/-- `x = b[7:6]` of R121. -/
def xField (b : Byte) : BitVec 2 := b.extractLsb' 6 2

/-- `y = b[5:3]` of R121. -/
def yField (b : Byte) : BitVec 3 := b.extractLsb' 3 3

/-- `z = b[2:0]` of R121. -/
def zField (b : Byte) : BitVec 3 := b.extractLsb' 0 3

/-- The r8 code of a register (R124). -/
def Reg.code : Reg → BitVec 3
  | .b => 0#3
  | .c => 1#3
  | .d => 2#3
  | .e => 3#3
  | .h => 4#3
  | .l => 5#3
  | .a => 7#3

/-- The r8 code (R124): (HL) is 6. -/
def R8.code : R8 → BitVec 3
  | .reg r => r.code
  | .memHL => 6#3

/-- The r8 operand of a code (R124). -/
def R8.ofCode (z : BitVec 3) : R8 :=
  [R8.reg .b, .reg .c, .reg .d, .reg .e, .reg .h, .reg .l, .memHL].getD z.toNat (.reg .a)

/-- The r16 code (R125). -/
def R16.code : R16 → BitVec 2
  | .bc => 0#2
  | .de => 1#2
  | .hl => 2#2
  | .sp => 3#2

/-- The r16stk code (R125). -/
def R16Stk.code : R16Stk → BitVec 2
  | .bc => 0#2
  | .de => 1#2
  | .hl => 2#2
  | .af => 3#2

/-- The r16mem code (R125). -/
def R16Mem.code : R16Mem → BitVec 2
  | .bc => 0#2
  | .de => 1#2
  | .hlInc => 2#2
  | .hlDec => 3#2

/-- The cc code (R126). -/
def Cond.code : Cond → BitVec 2
  | .nz => 0#2
  | .z => 1#2
  | .nc => 2#2
  | .c => 3#2

/-- The ALU operation of field y (R260). -/
def AluOp.code : AluOp → BitVec 3
  | .add => 0#3
  | .adc => 1#3
  | .sub => 2#3
  | .sbc => 3#3
  | .and => 4#3
  | .xor => 5#3
  | .or => 6#3
  | .cp => 7#3

/-- The operation of field y in group x = 0 (R130). -/
def RotOp.code : RotOp → BitVec 3
  | .rlc => 0#3
  | .rrc => 1#3
  | .rl => 2#3
  | .rr => 3#3
  | .sla => 4#3
  | .sra => 5#3
  | .swap => 6#3
  | .srl => 7#3

/-- The operation that field y selects in group x = 0 (R130). -/
def RotOp.ofCode (y : BitVec 3) : RotOp :=
  [RotOp.rlc, .rrc, .rl, .rr, .sla, .sra, .swap].getD y.toNat .srl

/-! ### The opcode maps -/

/-- The extended map of R130, indexed by the byte after 0xCB. -/
def cbRow0 : List Instr :=
  [.rlcB, .rlcC, .rlcD, .rlcE, .rlcH, .rlcL, .rlcMemHL, .rlcA, .rrcB, .rrcC, .rrcD, .rrcE, .rrcH, .rrcL, .rrcMemHL, .rrcA]
/-- Row 1x of R130. -/
def cbRow1 : List Instr :=
  [.rlB, .rlC, .rlD, .rlE, .rlH, .rlL, .rlMemHL, .rlA, .rrB, .rrC, .rrD, .rrE, .rrH, .rrL, .rrMemHL, .rrA]
/-- Row 2x of R130. -/
def cbRow2 : List Instr :=
  [.slaB, .slaC, .slaD, .slaE, .slaH, .slaL, .slaMemHL, .slaA, .sraB, .sraC, .sraD, .sraE, .sraH, .sraL, .sraMemHL, .sraA]
/-- Row 3x of R130. -/
def cbRow3 : List Instr :=
  [.swapB, .swapC, .swapD, .swapE, .swapH, .swapL, .swapMemHL, .swapA, .srlB, .srlC, .srlD, .srlE, .srlH, .srlL, .srlMemHL, .srlA]
/-- Row 4x of R130. -/
def cbRow4 : List Instr :=
  [.bit0B, .bit0C, .bit0D, .bit0E, .bit0H, .bit0L, .bit0MemHL, .bit0A, .bit1B, .bit1C, .bit1D, .bit1E, .bit1H, .bit1L, .bit1MemHL, .bit1A]
/-- Row 5x of R130. -/
def cbRow5 : List Instr :=
  [.bit2B, .bit2C, .bit2D, .bit2E, .bit2H, .bit2L, .bit2MemHL, .bit2A, .bit3B, .bit3C, .bit3D, .bit3E, .bit3H, .bit3L, .bit3MemHL, .bit3A]
/-- Row 6x of R130. -/
def cbRow6 : List Instr :=
  [.bit4B, .bit4C, .bit4D, .bit4E, .bit4H, .bit4L, .bit4MemHL, .bit4A, .bit5B, .bit5C, .bit5D, .bit5E, .bit5H, .bit5L, .bit5MemHL, .bit5A]
/-- Row 7x of R130. -/
def cbRow7 : List Instr :=
  [.bit6B, .bit6C, .bit6D, .bit6E, .bit6H, .bit6L, .bit6MemHL, .bit6A, .bit7B, .bit7C, .bit7D, .bit7E, .bit7H, .bit7L, .bit7MemHL, .bit7A]
/-- Row 8x of R130. -/
def cbRow8 : List Instr :=
  [.res0B, .res0C, .res0D, .res0E, .res0H, .res0L, .res0MemHL, .res0A, .res1B, .res1C, .res1D, .res1E, .res1H, .res1L, .res1MemHL, .res1A]
/-- Row 9x of R130. -/
def cbRow9 : List Instr :=
  [.res2B, .res2C, .res2D, .res2E, .res2H, .res2L, .res2MemHL, .res2A, .res3B, .res3C, .res3D, .res3E, .res3H, .res3L, .res3MemHL, .res3A]
/-- Row Ax of R130. -/
def cbRowA : List Instr :=
  [.res4B, .res4C, .res4D, .res4E, .res4H, .res4L, .res4MemHL, .res4A, .res5B, .res5C, .res5D, .res5E, .res5H, .res5L, .res5MemHL, .res5A]
/-- Row Bx of R130. -/
def cbRowB : List Instr :=
  [.res6B, .res6C, .res6D, .res6E, .res6H, .res6L, .res6MemHL, .res6A, .res7B, .res7C, .res7D, .res7E, .res7H, .res7L, .res7MemHL, .res7A]
/-- Row Cx of R130. -/
def cbRowC : List Instr :=
  [.set0B, .set0C, .set0D, .set0E, .set0H, .set0L, .set0MemHL, .set0A, .set1B, .set1C, .set1D, .set1E, .set1H, .set1L, .set1MemHL, .set1A]
/-- Row Dx of R130. -/
def cbRowD : List Instr :=
  [.set2B, .set2C, .set2D, .set2E, .set2H, .set2L, .set2MemHL, .set2A, .set3B, .set3C, .set3D, .set3E, .set3H, .set3L, .set3MemHL, .set3A]
/-- Row Ex of R130. -/
def cbRowE : List Instr :=
  [.set4B, .set4C, .set4D, .set4E, .set4H, .set4L, .set4MemHL, .set4A, .set5B, .set5C, .set5D, .set5E, .set5H, .set5L, .set5MemHL, .set5A]
/-- Row Fx of R130. -/
def cbRowF : List Instr :=
  [.set6B, .set6C, .set6D, .set6E, .set6H, .set6L, .set6MemHL, .set6A, .set7B, .set7C, .set7D, .set7E, .set7H, .set7L, .set7MemHL, .set7A]

/-- The extended map (R130): all 256 bytes are defined. -/
def cbTable : List Instr :=
  cbRow0 ++ cbRow1 ++ cbRow2 ++ cbRow3 ++ cbRow4 ++ cbRow5 ++ cbRow6 ++ cbRow7 ++ cbRow8 ++ cbRow9 ++ cbRowA ++ cbRowB ++ cbRowC ++ cbRowD ++ cbRowE ++ cbRowF

/-- `CB[b1]` of R133. -/
def decodeExtended (b1 : Byte) : Instr := cbTable.getD b1.toNat .nop

/-- The formats of R121. -/
inductive Format where
  | x8 | x8n8 | x8e8 | x8n16 | cb | undef
deriving DecidableEq, Repr

/-- The bytes an encoding of the format occupies (R121). An undefined opcode is one byte that PC does not pass (R120, log 16). -/
def Format.bytes : Format → Nat
  | .x8 => 1
  | .x8n8 => 2
  | .x8e8 => 2
  | .x8n16 => 3
  | .cb => 2
  | .undef => 1

/-- A cell of the base map: its format, and the instruction as a function of the operand bytes `b1` and `b2`. -/
structure Row where
  format : Format
  make : Byte → Byte → Instr

def Row.x8 (i : Instr) : Row := ⟨.x8, fun _ _ => i⟩
def Row.n8 (i : Byte → Instr) : Row := ⟨.x8n8, fun b1 _ => i b1⟩
def Row.e8 (i : Byte → Instr) : Row := ⟨.x8e8, fun b1 _ => i b1⟩
/-- `n16 = b2:b1`, little-endian (R85, R127). -/
def Row.n16 (i : Word → Instr) : Row := ⟨.x8n16, fun b1 b2 => i (pair b2 b1)⟩
/-- The prefix 0xCB: the following byte selects from the extended map (R128). -/
def Row.cb : Row := ⟨.cb, fun b1 _ => decodeExtended b1⟩
def Row.undef (i : Instr) : Row := ⟨.undef, fun _ _ => i⟩

open Row in
/-- The base map of R129. -/
def baseRow0 : List Row :=
  [x8 .nop, n16 .ldBCn16, x8 .ldMemBCA, x8 .incBC, x8 .incB, x8 .decB, n8 .ldBn8, x8 .rlca, n16 .ldMema16SP, x8 .addHLBC, x8 .ldAMemBC, x8 .decBC, x8 .incC, x8 .decC, n8 .ldCn8, x8 .rrca]
open Row in
/-- Row 1x of R129. -/
def baseRow1 : List Row :=
  [n8 .stop, n16 .ldDEn16, x8 .ldMemDEA, x8 .incDE, x8 .incD, x8 .decD, n8 .ldDn8, x8 .rla, e8 .jre8, x8 .addHLDE, x8 .ldAMemDE, x8 .decDE, x8 .incE, x8 .decE, n8 .ldEn8, x8 .rra]
open Row in
/-- Row 2x of R129. -/
def baseRow2 : List Row :=
  [e8 .jrNZe8, n16 .ldHLn16, x8 .ldMemHLIncA, x8 .incHL, x8 .incH, x8 .decH, n8 .ldHn8, x8 .daa, e8 .jrZe8, x8 .addHLHL, x8 .ldAMemHLInc, x8 .decHL, x8 .incL, x8 .decL, n8 .ldLn8, x8 .cpl]
open Row in
/-- Row 3x of R129. -/
def baseRow3 : List Row :=
  [e8 .jrNCe8, n16 .ldSPn16, x8 .ldMemHLDecA, x8 .incSP, x8 .incMemHL, x8 .decMemHL, n8 .ldMemHLn8, x8 .scf, e8 .jrCe8, x8 .addHLSP, x8 .ldAMemHLDec, x8 .decSP, x8 .incA, x8 .decA, n8 .ldAn8, x8 .ccf]
open Row in
/-- Row 4x of R129. -/
def baseRow4 : List Row :=
  [x8 .ldBB, x8 .ldBC, x8 .ldBD, x8 .ldBE, x8 .ldBH, x8 .ldBL, x8 .ldBMemHL, x8 .ldBA, x8 .ldCB, x8 .ldCC, x8 .ldCD, x8 .ldCE, x8 .ldCH, x8 .ldCL, x8 .ldCMemHL, x8 .ldCA]
open Row in
/-- Row 5x of R129. -/
def baseRow5 : List Row :=
  [x8 .ldDB, x8 .ldDC, x8 .ldDD, x8 .ldDE, x8 .ldDH, x8 .ldDL, x8 .ldDMemHL, x8 .ldDA, x8 .ldEB, x8 .ldEC, x8 .ldED, x8 .ldEE, x8 .ldEH, x8 .ldEL, x8 .ldEMemHL, x8 .ldEA]
open Row in
/-- Row 6x of R129. -/
def baseRow6 : List Row :=
  [x8 .ldHB, x8 .ldHC, x8 .ldHD, x8 .ldHE, x8 .ldHH, x8 .ldHL, x8 .ldHMemHL, x8 .ldHA, x8 .ldLB, x8 .ldLC, x8 .ldLD, x8 .ldLE, x8 .ldLH, x8 .ldLL, x8 .ldLMemHL, x8 .ldLA]
open Row in
/-- Row 7x of R129. -/
def baseRow7 : List Row :=
  [x8 .ldMemHLB, x8 .ldMemHLC, x8 .ldMemHLD, x8 .ldMemHLE, x8 .ldMemHLH, x8 .ldMemHLL, x8 .halt, x8 .ldMemHLA, x8 .ldAB, x8 .ldAC, x8 .ldAD, x8 .ldAE, x8 .ldAH, x8 .ldAL, x8 .ldAMemHL, x8 .ldAA]
open Row in
/-- Row 8x of R129. -/
def baseRow8 : List Row :=
  [x8 .addAB, x8 .addAC, x8 .addAD, x8 .addAE, x8 .addAH, x8 .addAL, x8 .addAMemHL, x8 .addAA, x8 .adcAB, x8 .adcAC, x8 .adcAD, x8 .adcAE, x8 .adcAH, x8 .adcAL, x8 .adcAMemHL, x8 .adcAA]
open Row in
/-- Row 9x of R129. -/
def baseRow9 : List Row :=
  [x8 .subB, x8 .subC, x8 .subD, x8 .subE, x8 .subH, x8 .subL, x8 .subMemHL, x8 .subA, x8 .sbcAB, x8 .sbcAC, x8 .sbcAD, x8 .sbcAE, x8 .sbcAH, x8 .sbcAL, x8 .sbcAMemHL, x8 .sbcAA]
open Row in
/-- Row Ax of R129. -/
def baseRowA : List Row :=
  [x8 .andB, x8 .andC, x8 .andD, x8 .andE, x8 .andH, x8 .andL, x8 .andMemHL, x8 .andA, x8 .xorB, x8 .xorC, x8 .xorD, x8 .xorE, x8 .xorH, x8 .xorL, x8 .xorMemHL, x8 .xorA]
open Row in
/-- Row Bx of R129. -/
def baseRowB : List Row :=
  [x8 .orB, x8 .orC, x8 .orD, x8 .orE, x8 .orH, x8 .orL, x8 .orMemHL, x8 .orA, x8 .cpB, x8 .cpC, x8 .cpD, x8 .cpE, x8 .cpH, x8 .cpL, x8 .cpMemHL, x8 .cpA]
open Row in
/-- Row Cx of R129. -/
def baseRowC : List Row :=
  [x8 .retNZ, x8 .popBC, n16 .jpNZa16, n16 .jpa16, n16 .callNZa16, x8 .pushBC, n8 .addAn8, x8 .rst00, x8 .retZ, x8 .ret, n16 .jpZa16, cb, n16 .callZa16, n16 .calla16, n8 .adcAn8, x8 .rst08]
open Row in
/-- Row Dx of R129. -/
def baseRowD : List Row :=
  [x8 .retNC, x8 .popDE, n16 .jpNCa16, undef .undefD3, n16 .callNCa16, x8 .pushDE, n8 .subn8, x8 .rst10, x8 .retC, x8 .reti, n16 .jpCa16, undef .undefDB, n16 .callCa16, undef .undefDD, n8 .sbcAn8, x8 .rst18]
open Row in
/-- Row Ex of R129. -/
def baseRowE : List Row :=
  [n8 .ldhMema8A, x8 .popHL, x8 .ldhMemCA, undef .undefE3, undef .undefE4, x8 .pushHL, n8 .andn8, x8 .rst20, e8 .addSPe8, x8 .jpHL, n16 .ldMema16A, undef .undefEB, undef .undefEC, undef .undefED, n8 .xorn8, x8 .rst28]
open Row in
/-- Row Fx of R129. -/
def baseRowF : List Row :=
  [n8 .ldhAMema8, x8 .popAF, x8 .ldhAMemC, x8 .di, undef .undefF4, x8 .pushAF, n8 .orn8, x8 .rst30, e8 .ldHLSPe8, x8 .ldSPHL, n16 .ldAMema16, x8 .ei, undef .undefFC, undef .undefFD, n8 .cpn8, x8 .rst38]

/-- The base map (R129). -/
def baseTable : List Row :=
  baseRow0 ++ baseRow1 ++ baseRow2 ++ baseRow3 ++ baseRow4 ++ baseRow5 ++ baseRow6 ++ baseRow7 ++ baseRow8 ++ baseRow9 ++ baseRowA ++ baseRowB ++ baseRowC ++ baseRowD ++ baseRowE ++ baseRowF

/-- `BASE[b0]`, with the prefix as a row of its own. -/
def baseCell (b0 : Byte) : Row := baseTable.getD b0.toNat Row.cb

/-- Decode as R133 has it: total, of the opcode byte and the two bytes after it. -/
def decodeBytes (b0 b1 b2 : Byte) : Instr := (baseCell b0).make b1 b2

/-- The number of bytes of the instruction that starts with `b0` (R120): "a decoder knows the length after reading one byte". -/
def lengthOf (b0 : Byte) : Nat := (baseCell b0).format.bytes

/-- Why a byte list is no instruction. The byte values never are the reason (R133). -/
inductive DecodeError where
  /-- There is no byte. -/
  | empty
  /-- The list ends before the instruction does. -/
  | truncated
deriving DecidableEq, Repr

/-- Decode the first instruction of a byte list, and give the bytes after it. -/
def decode : List Byte → Except DecodeError (Instr × List Byte)
  | [] => .error .empty
  | b0 :: rest =>
    match lengthOf b0, rest with
    | 0, rest => .ok (decodeBytes b0 0#8 0#8, rest)
    | 1, rest => .ok (decodeBytes b0 0#8 0#8, rest)
    | 2, b1 :: rest => .ok (decodeBytes b0 b1 0#8, rest)
    | _, b1 :: b2 :: rest => .ok (decodeBytes b0 b1 b2, rest)
    | _, _ => .error .truncated

/-! ### The encoder -/

/-- The bytes of an instruction, in the order they are stored (R121). -/
def encode : Instr → List Byte
  | .nop => [0x00#8]
  | .ldBCn16 n => [0x01#8, lo n, hi n]
  | .ldMemBCA => [0x02#8]
  | .incBC => [0x03#8]
  | .incB => [0x04#8]
  | .decB => [0x05#8]
  | .ldBn8 n => [0x06#8, n]
  | .rlca => [0x07#8]
  | .ldMema16SP a => [0x08#8, lo a, hi a]
  | .addHLBC => [0x09#8]
  | .ldAMemBC => [0x0A#8]
  | .decBC => [0x0B#8]
  | .incC => [0x0C#8]
  | .decC => [0x0D#8]
  | .ldCn8 n => [0x0E#8, n]
  | .rrca => [0x0F#8]
  | .stop ignored => [0x10#8, ignored]
  | .ldDEn16 n => [0x11#8, lo n, hi n]
  | .ldMemDEA => [0x12#8]
  | .incDE => [0x13#8]
  | .incD => [0x14#8]
  | .decD => [0x15#8]
  | .ldDn8 n => [0x16#8, n]
  | .rla => [0x17#8]
  | .jre8 e => [0x18#8, e]
  | .addHLDE => [0x19#8]
  | .ldAMemDE => [0x1A#8]
  | .decDE => [0x1B#8]
  | .incE => [0x1C#8]
  | .decE => [0x1D#8]
  | .ldEn8 n => [0x1E#8, n]
  | .rra => [0x1F#8]
  | .jrNZe8 e => [0x20#8, e]
  | .ldHLn16 n => [0x21#8, lo n, hi n]
  | .ldMemHLIncA => [0x22#8]
  | .incHL => [0x23#8]
  | .incH => [0x24#8]
  | .decH => [0x25#8]
  | .ldHn8 n => [0x26#8, n]
  | .daa => [0x27#8]
  | .jrZe8 e => [0x28#8, e]
  | .addHLHL => [0x29#8]
  | .ldAMemHLInc => [0x2A#8]
  | .decHL => [0x2B#8]
  | .incL => [0x2C#8]
  | .decL => [0x2D#8]
  | .ldLn8 n => [0x2E#8, n]
  | .cpl => [0x2F#8]
  | .jrNCe8 e => [0x30#8, e]
  | .ldSPn16 n => [0x31#8, lo n, hi n]
  | .ldMemHLDecA => [0x32#8]
  | .incSP => [0x33#8]
  | .incMemHL => [0x34#8]
  | .decMemHL => [0x35#8]
  | .ldMemHLn8 n => [0x36#8, n]
  | .scf => [0x37#8]
  | .jrCe8 e => [0x38#8, e]
  | .addHLSP => [0x39#8]
  | .ldAMemHLDec => [0x3A#8]
  | .decSP => [0x3B#8]
  | .incA => [0x3C#8]
  | .decA => [0x3D#8]
  | .ldAn8 n => [0x3E#8, n]
  | .ccf => [0x3F#8]
  | .ldBB => [0x40#8]
  | .ldBC => [0x41#8]
  | .ldBD => [0x42#8]
  | .ldBE => [0x43#8]
  | .ldBH => [0x44#8]
  | .ldBL => [0x45#8]
  | .ldBMemHL => [0x46#8]
  | .ldBA => [0x47#8]
  | .ldCB => [0x48#8]
  | .ldCC => [0x49#8]
  | .ldCD => [0x4A#8]
  | .ldCE => [0x4B#8]
  | .ldCH => [0x4C#8]
  | .ldCL => [0x4D#8]
  | .ldCMemHL => [0x4E#8]
  | .ldCA => [0x4F#8]
  | .ldDB => [0x50#8]
  | .ldDC => [0x51#8]
  | .ldDD => [0x52#8]
  | .ldDE => [0x53#8]
  | .ldDH => [0x54#8]
  | .ldDL => [0x55#8]
  | .ldDMemHL => [0x56#8]
  | .ldDA => [0x57#8]
  | .ldEB => [0x58#8]
  | .ldEC => [0x59#8]
  | .ldED => [0x5A#8]
  | .ldEE => [0x5B#8]
  | .ldEH => [0x5C#8]
  | .ldEL => [0x5D#8]
  | .ldEMemHL => [0x5E#8]
  | .ldEA => [0x5F#8]
  | .ldHB => [0x60#8]
  | .ldHC => [0x61#8]
  | .ldHD => [0x62#8]
  | .ldHE => [0x63#8]
  | .ldHH => [0x64#8]
  | .ldHL => [0x65#8]
  | .ldHMemHL => [0x66#8]
  | .ldHA => [0x67#8]
  | .ldLB => [0x68#8]
  | .ldLC => [0x69#8]
  | .ldLD => [0x6A#8]
  | .ldLE => [0x6B#8]
  | .ldLH => [0x6C#8]
  | .ldLL => [0x6D#8]
  | .ldLMemHL => [0x6E#8]
  | .ldLA => [0x6F#8]
  | .ldMemHLB => [0x70#8]
  | .ldMemHLC => [0x71#8]
  | .ldMemHLD => [0x72#8]
  | .ldMemHLE => [0x73#8]
  | .ldMemHLH => [0x74#8]
  | .ldMemHLL => [0x75#8]
  | .halt => [0x76#8]
  | .ldMemHLA => [0x77#8]
  | .ldAB => [0x78#8]
  | .ldAC => [0x79#8]
  | .ldAD => [0x7A#8]
  | .ldAE => [0x7B#8]
  | .ldAH => [0x7C#8]
  | .ldAL => [0x7D#8]
  | .ldAMemHL => [0x7E#8]
  | .ldAA => [0x7F#8]
  | .addAB => [0x80#8]
  | .addAC => [0x81#8]
  | .addAD => [0x82#8]
  | .addAE => [0x83#8]
  | .addAH => [0x84#8]
  | .addAL => [0x85#8]
  | .addAMemHL => [0x86#8]
  | .addAA => [0x87#8]
  | .adcAB => [0x88#8]
  | .adcAC => [0x89#8]
  | .adcAD => [0x8A#8]
  | .adcAE => [0x8B#8]
  | .adcAH => [0x8C#8]
  | .adcAL => [0x8D#8]
  | .adcAMemHL => [0x8E#8]
  | .adcAA => [0x8F#8]
  | .subB => [0x90#8]
  | .subC => [0x91#8]
  | .subD => [0x92#8]
  | .subE => [0x93#8]
  | .subH => [0x94#8]
  | .subL => [0x95#8]
  | .subMemHL => [0x96#8]
  | .subA => [0x97#8]
  | .sbcAB => [0x98#8]
  | .sbcAC => [0x99#8]
  | .sbcAD => [0x9A#8]
  | .sbcAE => [0x9B#8]
  | .sbcAH => [0x9C#8]
  | .sbcAL => [0x9D#8]
  | .sbcAMemHL => [0x9E#8]
  | .sbcAA => [0x9F#8]
  | .andB => [0xA0#8]
  | .andC => [0xA1#8]
  | .andD => [0xA2#8]
  | .andE => [0xA3#8]
  | .andH => [0xA4#8]
  | .andL => [0xA5#8]
  | .andMemHL => [0xA6#8]
  | .andA => [0xA7#8]
  | .xorB => [0xA8#8]
  | .xorC => [0xA9#8]
  | .xorD => [0xAA#8]
  | .xorE => [0xAB#8]
  | .xorH => [0xAC#8]
  | .xorL => [0xAD#8]
  | .xorMemHL => [0xAE#8]
  | .xorA => [0xAF#8]
  | .orB => [0xB0#8]
  | .orC => [0xB1#8]
  | .orD => [0xB2#8]
  | .orE => [0xB3#8]
  | .orH => [0xB4#8]
  | .orL => [0xB5#8]
  | .orMemHL => [0xB6#8]
  | .orA => [0xB7#8]
  | .cpB => [0xB8#8]
  | .cpC => [0xB9#8]
  | .cpD => [0xBA#8]
  | .cpE => [0xBB#8]
  | .cpH => [0xBC#8]
  | .cpL => [0xBD#8]
  | .cpMemHL => [0xBE#8]
  | .cpA => [0xBF#8]
  | .retNZ => [0xC0#8]
  | .popBC => [0xC1#8]
  | .jpNZa16 a => [0xC2#8, lo a, hi a]
  | .jpa16 a => [0xC3#8, lo a, hi a]
  | .callNZa16 a => [0xC4#8, lo a, hi a]
  | .pushBC => [0xC5#8]
  | .addAn8 n => [0xC6#8, n]
  | .rst00 => [0xC7#8]
  | .retZ => [0xC8#8]
  | .ret => [0xC9#8]
  | .jpZa16 a => [0xCA#8, lo a, hi a]
  | .prefixCB b1 => [0xCB#8, b1]
  | .callZa16 a => [0xCC#8, lo a, hi a]
  | .calla16 a => [0xCD#8, lo a, hi a]
  | .adcAn8 n => [0xCE#8, n]
  | .rst08 => [0xCF#8]
  | .retNC => [0xD0#8]
  | .popDE => [0xD1#8]
  | .jpNCa16 a => [0xD2#8, lo a, hi a]
  | .undefD3 => [0xD3#8]
  | .callNCa16 a => [0xD4#8, lo a, hi a]
  | .pushDE => [0xD5#8]
  | .subn8 n => [0xD6#8, n]
  | .rst10 => [0xD7#8]
  | .retC => [0xD8#8]
  | .reti => [0xD9#8]
  | .jpCa16 a => [0xDA#8, lo a, hi a]
  | .undefDB => [0xDB#8]
  | .callCa16 a => [0xDC#8, lo a, hi a]
  | .undefDD => [0xDD#8]
  | .sbcAn8 n => [0xDE#8, n]
  | .rst18 => [0xDF#8]
  | .ldhMema8A a => [0xE0#8, a]
  | .popHL => [0xE1#8]
  | .ldhMemCA => [0xE2#8]
  | .undefE3 => [0xE3#8]
  | .undefE4 => [0xE4#8]
  | .pushHL => [0xE5#8]
  | .andn8 n => [0xE6#8, n]
  | .rst20 => [0xE7#8]
  | .addSPe8 e => [0xE8#8, e]
  | .jpHL => [0xE9#8]
  | .ldMema16A a => [0xEA#8, lo a, hi a]
  | .undefEB => [0xEB#8]
  | .undefEC => [0xEC#8]
  | .undefED => [0xED#8]
  | .xorn8 n => [0xEE#8, n]
  | .rst28 => [0xEF#8]
  | .ldhAMema8 a => [0xF0#8, a]
  | .popAF => [0xF1#8]
  | .ldhAMemC => [0xF2#8]
  | .di => [0xF3#8]
  | .undefF4 => [0xF4#8]
  | .pushAF => [0xF5#8]
  | .orn8 n => [0xF6#8, n]
  | .rst30 => [0xF7#8]
  | .ldHLSPe8 e => [0xF8#8, e]
  | .ldSPHL => [0xF9#8]
  | .ldAMema16 a => [0xFA#8, lo a, hi a]
  | .ei => [0xFB#8]
  | .undefFC => [0xFC#8]
  | .undefFD => [0xFD#8]
  | .cpn8 n => [0xFE#8, n]
  | .rst38 => [0xFF#8]
  | .rlcB => [0xCB#8, 0x00#8]
  | .rlcC => [0xCB#8, 0x01#8]
  | .rlcD => [0xCB#8, 0x02#8]
  | .rlcE => [0xCB#8, 0x03#8]
  | .rlcH => [0xCB#8, 0x04#8]
  | .rlcL => [0xCB#8, 0x05#8]
  | .rlcMemHL => [0xCB#8, 0x06#8]
  | .rlcA => [0xCB#8, 0x07#8]
  | .rrcB => [0xCB#8, 0x08#8]
  | .rrcC => [0xCB#8, 0x09#8]
  | .rrcD => [0xCB#8, 0x0A#8]
  | .rrcE => [0xCB#8, 0x0B#8]
  | .rrcH => [0xCB#8, 0x0C#8]
  | .rrcL => [0xCB#8, 0x0D#8]
  | .rrcMemHL => [0xCB#8, 0x0E#8]
  | .rrcA => [0xCB#8, 0x0F#8]
  | .rlB => [0xCB#8, 0x10#8]
  | .rlC => [0xCB#8, 0x11#8]
  | .rlD => [0xCB#8, 0x12#8]
  | .rlE => [0xCB#8, 0x13#8]
  | .rlH => [0xCB#8, 0x14#8]
  | .rlL => [0xCB#8, 0x15#8]
  | .rlMemHL => [0xCB#8, 0x16#8]
  | .rlA => [0xCB#8, 0x17#8]
  | .rrB => [0xCB#8, 0x18#8]
  | .rrC => [0xCB#8, 0x19#8]
  | .rrD => [0xCB#8, 0x1A#8]
  | .rrE => [0xCB#8, 0x1B#8]
  | .rrH => [0xCB#8, 0x1C#8]
  | .rrL => [0xCB#8, 0x1D#8]
  | .rrMemHL => [0xCB#8, 0x1E#8]
  | .rrA => [0xCB#8, 0x1F#8]
  | .slaB => [0xCB#8, 0x20#8]
  | .slaC => [0xCB#8, 0x21#8]
  | .slaD => [0xCB#8, 0x22#8]
  | .slaE => [0xCB#8, 0x23#8]
  | .slaH => [0xCB#8, 0x24#8]
  | .slaL => [0xCB#8, 0x25#8]
  | .slaMemHL => [0xCB#8, 0x26#8]
  | .slaA => [0xCB#8, 0x27#8]
  | .sraB => [0xCB#8, 0x28#8]
  | .sraC => [0xCB#8, 0x29#8]
  | .sraD => [0xCB#8, 0x2A#8]
  | .sraE => [0xCB#8, 0x2B#8]
  | .sraH => [0xCB#8, 0x2C#8]
  | .sraL => [0xCB#8, 0x2D#8]
  | .sraMemHL => [0xCB#8, 0x2E#8]
  | .sraA => [0xCB#8, 0x2F#8]
  | .swapB => [0xCB#8, 0x30#8]
  | .swapC => [0xCB#8, 0x31#8]
  | .swapD => [0xCB#8, 0x32#8]
  | .swapE => [0xCB#8, 0x33#8]
  | .swapH => [0xCB#8, 0x34#8]
  | .swapL => [0xCB#8, 0x35#8]
  | .swapMemHL => [0xCB#8, 0x36#8]
  | .swapA => [0xCB#8, 0x37#8]
  | .srlB => [0xCB#8, 0x38#8]
  | .srlC => [0xCB#8, 0x39#8]
  | .srlD => [0xCB#8, 0x3A#8]
  | .srlE => [0xCB#8, 0x3B#8]
  | .srlH => [0xCB#8, 0x3C#8]
  | .srlL => [0xCB#8, 0x3D#8]
  | .srlMemHL => [0xCB#8, 0x3E#8]
  | .srlA => [0xCB#8, 0x3F#8]
  | .bit0B => [0xCB#8, 0x40#8]
  | .bit0C => [0xCB#8, 0x41#8]
  | .bit0D => [0xCB#8, 0x42#8]
  | .bit0E => [0xCB#8, 0x43#8]
  | .bit0H => [0xCB#8, 0x44#8]
  | .bit0L => [0xCB#8, 0x45#8]
  | .bit0MemHL => [0xCB#8, 0x46#8]
  | .bit0A => [0xCB#8, 0x47#8]
  | .bit1B => [0xCB#8, 0x48#8]
  | .bit1C => [0xCB#8, 0x49#8]
  | .bit1D => [0xCB#8, 0x4A#8]
  | .bit1E => [0xCB#8, 0x4B#8]
  | .bit1H => [0xCB#8, 0x4C#8]
  | .bit1L => [0xCB#8, 0x4D#8]
  | .bit1MemHL => [0xCB#8, 0x4E#8]
  | .bit1A => [0xCB#8, 0x4F#8]
  | .bit2B => [0xCB#8, 0x50#8]
  | .bit2C => [0xCB#8, 0x51#8]
  | .bit2D => [0xCB#8, 0x52#8]
  | .bit2E => [0xCB#8, 0x53#8]
  | .bit2H => [0xCB#8, 0x54#8]
  | .bit2L => [0xCB#8, 0x55#8]
  | .bit2MemHL => [0xCB#8, 0x56#8]
  | .bit2A => [0xCB#8, 0x57#8]
  | .bit3B => [0xCB#8, 0x58#8]
  | .bit3C => [0xCB#8, 0x59#8]
  | .bit3D => [0xCB#8, 0x5A#8]
  | .bit3E => [0xCB#8, 0x5B#8]
  | .bit3H => [0xCB#8, 0x5C#8]
  | .bit3L => [0xCB#8, 0x5D#8]
  | .bit3MemHL => [0xCB#8, 0x5E#8]
  | .bit3A => [0xCB#8, 0x5F#8]
  | .bit4B => [0xCB#8, 0x60#8]
  | .bit4C => [0xCB#8, 0x61#8]
  | .bit4D => [0xCB#8, 0x62#8]
  | .bit4E => [0xCB#8, 0x63#8]
  | .bit4H => [0xCB#8, 0x64#8]
  | .bit4L => [0xCB#8, 0x65#8]
  | .bit4MemHL => [0xCB#8, 0x66#8]
  | .bit4A => [0xCB#8, 0x67#8]
  | .bit5B => [0xCB#8, 0x68#8]
  | .bit5C => [0xCB#8, 0x69#8]
  | .bit5D => [0xCB#8, 0x6A#8]
  | .bit5E => [0xCB#8, 0x6B#8]
  | .bit5H => [0xCB#8, 0x6C#8]
  | .bit5L => [0xCB#8, 0x6D#8]
  | .bit5MemHL => [0xCB#8, 0x6E#8]
  | .bit5A => [0xCB#8, 0x6F#8]
  | .bit6B => [0xCB#8, 0x70#8]
  | .bit6C => [0xCB#8, 0x71#8]
  | .bit6D => [0xCB#8, 0x72#8]
  | .bit6E => [0xCB#8, 0x73#8]
  | .bit6H => [0xCB#8, 0x74#8]
  | .bit6L => [0xCB#8, 0x75#8]
  | .bit6MemHL => [0xCB#8, 0x76#8]
  | .bit6A => [0xCB#8, 0x77#8]
  | .bit7B => [0xCB#8, 0x78#8]
  | .bit7C => [0xCB#8, 0x79#8]
  | .bit7D => [0xCB#8, 0x7A#8]
  | .bit7E => [0xCB#8, 0x7B#8]
  | .bit7H => [0xCB#8, 0x7C#8]
  | .bit7L => [0xCB#8, 0x7D#8]
  | .bit7MemHL => [0xCB#8, 0x7E#8]
  | .bit7A => [0xCB#8, 0x7F#8]
  | .res0B => [0xCB#8, 0x80#8]
  | .res0C => [0xCB#8, 0x81#8]
  | .res0D => [0xCB#8, 0x82#8]
  | .res0E => [0xCB#8, 0x83#8]
  | .res0H => [0xCB#8, 0x84#8]
  | .res0L => [0xCB#8, 0x85#8]
  | .res0MemHL => [0xCB#8, 0x86#8]
  | .res0A => [0xCB#8, 0x87#8]
  | .res1B => [0xCB#8, 0x88#8]
  | .res1C => [0xCB#8, 0x89#8]
  | .res1D => [0xCB#8, 0x8A#8]
  | .res1E => [0xCB#8, 0x8B#8]
  | .res1H => [0xCB#8, 0x8C#8]
  | .res1L => [0xCB#8, 0x8D#8]
  | .res1MemHL => [0xCB#8, 0x8E#8]
  | .res1A => [0xCB#8, 0x8F#8]
  | .res2B => [0xCB#8, 0x90#8]
  | .res2C => [0xCB#8, 0x91#8]
  | .res2D => [0xCB#8, 0x92#8]
  | .res2E => [0xCB#8, 0x93#8]
  | .res2H => [0xCB#8, 0x94#8]
  | .res2L => [0xCB#8, 0x95#8]
  | .res2MemHL => [0xCB#8, 0x96#8]
  | .res2A => [0xCB#8, 0x97#8]
  | .res3B => [0xCB#8, 0x98#8]
  | .res3C => [0xCB#8, 0x99#8]
  | .res3D => [0xCB#8, 0x9A#8]
  | .res3E => [0xCB#8, 0x9B#8]
  | .res3H => [0xCB#8, 0x9C#8]
  | .res3L => [0xCB#8, 0x9D#8]
  | .res3MemHL => [0xCB#8, 0x9E#8]
  | .res3A => [0xCB#8, 0x9F#8]
  | .res4B => [0xCB#8, 0xA0#8]
  | .res4C => [0xCB#8, 0xA1#8]
  | .res4D => [0xCB#8, 0xA2#8]
  | .res4E => [0xCB#8, 0xA3#8]
  | .res4H => [0xCB#8, 0xA4#8]
  | .res4L => [0xCB#8, 0xA5#8]
  | .res4MemHL => [0xCB#8, 0xA6#8]
  | .res4A => [0xCB#8, 0xA7#8]
  | .res5B => [0xCB#8, 0xA8#8]
  | .res5C => [0xCB#8, 0xA9#8]
  | .res5D => [0xCB#8, 0xAA#8]
  | .res5E => [0xCB#8, 0xAB#8]
  | .res5H => [0xCB#8, 0xAC#8]
  | .res5L => [0xCB#8, 0xAD#8]
  | .res5MemHL => [0xCB#8, 0xAE#8]
  | .res5A => [0xCB#8, 0xAF#8]
  | .res6B => [0xCB#8, 0xB0#8]
  | .res6C => [0xCB#8, 0xB1#8]
  | .res6D => [0xCB#8, 0xB2#8]
  | .res6E => [0xCB#8, 0xB3#8]
  | .res6H => [0xCB#8, 0xB4#8]
  | .res6L => [0xCB#8, 0xB5#8]
  | .res6MemHL => [0xCB#8, 0xB6#8]
  | .res6A => [0xCB#8, 0xB7#8]
  | .res7B => [0xCB#8, 0xB8#8]
  | .res7C => [0xCB#8, 0xB9#8]
  | .res7D => [0xCB#8, 0xBA#8]
  | .res7E => [0xCB#8, 0xBB#8]
  | .res7H => [0xCB#8, 0xBC#8]
  | .res7L => [0xCB#8, 0xBD#8]
  | .res7MemHL => [0xCB#8, 0xBE#8]
  | .res7A => [0xCB#8, 0xBF#8]
  | .set0B => [0xCB#8, 0xC0#8]
  | .set0C => [0xCB#8, 0xC1#8]
  | .set0D => [0xCB#8, 0xC2#8]
  | .set0E => [0xCB#8, 0xC3#8]
  | .set0H => [0xCB#8, 0xC4#8]
  | .set0L => [0xCB#8, 0xC5#8]
  | .set0MemHL => [0xCB#8, 0xC6#8]
  | .set0A => [0xCB#8, 0xC7#8]
  | .set1B => [0xCB#8, 0xC8#8]
  | .set1C => [0xCB#8, 0xC9#8]
  | .set1D => [0xCB#8, 0xCA#8]
  | .set1E => [0xCB#8, 0xCB#8]
  | .set1H => [0xCB#8, 0xCC#8]
  | .set1L => [0xCB#8, 0xCD#8]
  | .set1MemHL => [0xCB#8, 0xCE#8]
  | .set1A => [0xCB#8, 0xCF#8]
  | .set2B => [0xCB#8, 0xD0#8]
  | .set2C => [0xCB#8, 0xD1#8]
  | .set2D => [0xCB#8, 0xD2#8]
  | .set2E => [0xCB#8, 0xD3#8]
  | .set2H => [0xCB#8, 0xD4#8]
  | .set2L => [0xCB#8, 0xD5#8]
  | .set2MemHL => [0xCB#8, 0xD6#8]
  | .set2A => [0xCB#8, 0xD7#8]
  | .set3B => [0xCB#8, 0xD8#8]
  | .set3C => [0xCB#8, 0xD9#8]
  | .set3D => [0xCB#8, 0xDA#8]
  | .set3E => [0xCB#8, 0xDB#8]
  | .set3H => [0xCB#8, 0xDC#8]
  | .set3L => [0xCB#8, 0xDD#8]
  | .set3MemHL => [0xCB#8, 0xDE#8]
  | .set3A => [0xCB#8, 0xDF#8]
  | .set4B => [0xCB#8, 0xE0#8]
  | .set4C => [0xCB#8, 0xE1#8]
  | .set4D => [0xCB#8, 0xE2#8]
  | .set4E => [0xCB#8, 0xE3#8]
  | .set4H => [0xCB#8, 0xE4#8]
  | .set4L => [0xCB#8, 0xE5#8]
  | .set4MemHL => [0xCB#8, 0xE6#8]
  | .set4A => [0xCB#8, 0xE7#8]
  | .set5B => [0xCB#8, 0xE8#8]
  | .set5C => [0xCB#8, 0xE9#8]
  | .set5D => [0xCB#8, 0xEA#8]
  | .set5E => [0xCB#8, 0xEB#8]
  | .set5H => [0xCB#8, 0xEC#8]
  | .set5L => [0xCB#8, 0xED#8]
  | .set5MemHL => [0xCB#8, 0xEE#8]
  | .set5A => [0xCB#8, 0xEF#8]
  | .set6B => [0xCB#8, 0xF0#8]
  | .set6C => [0xCB#8, 0xF1#8]
  | .set6D => [0xCB#8, 0xF2#8]
  | .set6E => [0xCB#8, 0xF3#8]
  | .set6H => [0xCB#8, 0xF4#8]
  | .set6L => [0xCB#8, 0xF5#8]
  | .set6MemHL => [0xCB#8, 0xF6#8]
  | .set6A => [0xCB#8, 0xF7#8]
  | .set7B => [0xCB#8, 0xF8#8]
  | .set7C => [0xCB#8, 0xF9#8]
  | .set7D => [0xCB#8, 0xFA#8]
  | .set7E => [0xCB#8, 0xFB#8]
  | .set7H => [0xCB#8, 0xFC#8]
  | .set7L => [0xCB#8, 0xFD#8]
  | .set7MemHL => [0xCB#8, 0xFE#8]
  | .set7A => [0xCB#8, 0xFF#8]

/-! ### The host's interface to the decoder -/

/-- The bytes of an instruction word as `spec/opcode_table.json` numbers it (log 9). A row of one byte is bits 7..0. The table writes its
two-byte rows, all of them 0xCB rows, with the first byte in bits 15..8; any other word is read with its first byte in bits 7..0. -/
def tableBytes (nbits w : Nat) : List Byte :=
  let byte (k : Nat) : Byte := if 8 * k < nbits then BitVec.ofNat 8 (w / 2 ^ (8 * k)) else 0#8
  if nbits = 16 ∧ byte 1 = 0xCB#8 then [byte 1, byte 0, 0#8] else [byte 0, byte 1, byte 2]

/-- The instruction the decoder reads from a word of the table, every bit above `nbits` 0. -/
def decodeTableWord (nbits w : Nat) : Option Instr :=
  match decode (tableBytes nbits w) with
  | .ok (i, _) => some i
  | .error _ => none

end Sys2Proof
end

