-- ==== Sys2Proof/Machine/Flags.lean ====
section
/-! DEFINITION. Machine/Flags.lean: the Flag Set as a byte (10_state.md R34, R37) and every result-and-flags computation of the ALU
(43_alu8.md, 44_alu16.md) and of the rotate, shift and bit engine (45_rotate_shift_bit.md). -/

namespace Sys2Proof.Machine

/-- The Flag Set (R35): "four boolean condition flags (zero, subtract, half-carry, carry)". -/
structure FlagSet where
  z : Bool
  n : Bool
  h : Bool
  c : Bool
deriving DecidableEq, Repr

/-- `to_byte` of R37, the read of R34: `Z<<7 | N<<6 | H<<5 | C<<4`. -/
def FlagSet.toByte (s : FlagSet) : Byte :=
  (bitByte s.z <<< 7) ||| (bitByte s.n <<< 6) ||| (bitByte s.h <<< 5) ||| (bitByte s.c <<< 4)

/-- `from_byte(v)` of R37: Z, N, H, C from `v[7:4]`. -/
def FlagSet.fromByte (v : Byte) : FlagSet :=
  { z := v.getLsbD 7, n := v.getLsbD 6, h := v.getLsbD 5, c := v.getLsbD 4 }

/-- A result of the 8-bit ALU with the four flags it computes. -/
structure AluResult where
  res : Byte
  z : Bool
  n : Bool
  h : Bool
  c : Bool
deriving DecidableEq, Repr

/-- A flag as 0 or 1 (R13). -/
def carryNat (b : Bool) : Nat := if b then 1 else 0

/-- `add8(a, v, cin)` of R261, on exact integers. -/
def add8 (a v : Byte) (cin : Bool) : AluResult :=
  let s := a.toNat + v.toNat + carryNat cin
  let res := BitVec.ofNat 8 s
  { res := res
    z := decide (res = 0#8)
    n := false
    h := ((a &&& 0x0F#8).toNat + (v &&& 0x0F#8).toNat + carryNat cin).testBit 4
    c := s.testBit 8 }

/-- `sub8(a, v, bin)` of R262, on exact integers. -/
def sub8 (a v : Byte) (bin : Bool) : AluResult :=
  let d : Int := (a.toNat : Int) - v.toNat - carryNat bin
  let res := BitVec.ofInt 8 d
  { res := res
    z := decide (res = 0#8)
    n := true
    h := decide (((a &&& 0x0F#8).toNat : Int) - (v &&& 0x0F#8).toNat - carryNat bin < 0)
    c := decide (d < 0) }

/-- The flags of AND, XOR and OR (R275 to R283): Z from the result, N and C clear, H as given. -/
def logic8 (res : Byte) (h : Bool) : AluResult :=
  { res := res, z := decide (res = 0#8), n := false, h := h, c := false }

/-- The eight ALU operations on A (R260), `cin` the carry flag. -/
def alu8 (op : AluOp) (a v : Byte) (cin : Bool) : AluResult :=
  match op with
  | .add => add8 a v false
  | .adc => add8 a v cin
  | .sub => sub8 a v false
  | .sbc => sub8 a v cin
  | .and => logic8 (a &&& v) true
  | .xor => logic8 (a ^^^ v) false
  | .or => logic8 (a ||| v) false
  | .cp => sub8 a v false

/-- Whether the operation writes its result to A: CP does not (R284). -/
def aluWritesA : AluOp → Bool
  | .add => true
  | .adc => true
  | .sub => true
  | .sbc => true
  | .and => true
  | .xor => true
  | .or => true
  | .cp => false

/-- H of an 8-bit increment of `v` (R287). -/
def incHalf (v : Byte) : Bool := decide (v &&& 0x0F#8 = 0x0F#8)

/-- H of an 8-bit decrement of `v` (R289). -/
def decHalf (v : Byte) : Bool := decide (v &&& 0x0F#8 = 0x00#8)

/-- DAA (R291): the adjusted A and the new C, from A, N, H, C. -/
def daa (a : Byte) (n h c : Bool) : Byte × Bool :=
  if n then
    let a1 := if c then a - 0x60#8 else a
    let a2 := if h then a1 - 0x06#8 else a1
    (a2, c)
  else
    let high := c || decide (0x99#8 < a)
    let a1 := if high then a + 0x60#8 else a
    let a2 := if h || decide (0x09#8 < (a1 &&& 0x0F#8)) then a1 + 0x06#8 else a1
    (a2, high)

/-- `add16(a, b)` of R320: the result, H out of bit 11, C out of bit 15. -/
def add16 (a b : Word) : Word × Bool × Bool :=
  let s := a.toNat + b.toNat
  (BitVec.ofNat 16 s, ((a &&& 0x0FFF#16).toNat + (b &&& 0x0FFF#16).toNat).testBit 12, s.testBit 16)

/-- `sp_offset_flags(sp, u)` of R324: H and C of the unsigned addition of the raw byte to SP's low byte. -/
def spOffsetFlags (sp : Word) (u : Byte) : Bool × Bool :=
  (((sp &&& 0x0F#16).toNat + (u &&& 0x0F#8).toNat).testBit 4, ((sp &&& 0xFF#16).toNat + u.toNat).testBit 8)

/-- The rotates, shifts and SWAP (R345 to R360): the result and the new C, `cin` the carry flag. -/
def rotate8 (op : RotOp) (v : Byte) (cin : Bool) : Byte × Bool :=
  match op with
  | .rlc => ((v <<< 1) ||| bitByte (v.getLsbD 7), v.getLsbD 7)
  | .rrc => ((v >>> 1) ||| (bitByte (v.getLsbD 0) <<< 7), v.getLsbD 0)
  | .rl => ((v <<< 1) ||| bitByte cin, v.getLsbD 7)
  | .rr => ((v >>> 1) ||| (bitByte cin <<< 7), v.getLsbD 0)
  | .sla => (v <<< 1, v.getLsbD 7)
  | .sra => ((v >>> 1) ||| (v &&& 0x80#8), v.getLsbD 0)
  | .swap => (((v &&& 0x0F#8) <<< 4) ||| (v >>> 4), false)
  | .srl => (v >>> 1, v.getLsbD 0)

/-- `v & ~(1 << b) & 0xFF` of R363. -/
def resetBit (b : BitVec 3) (v : Byte) : Byte := v &&& ~~~(1#8 <<< b.toNat)

/-- `v | (1 << b)` of R365. -/
def setBit (b : BitVec 3) (v : Byte) : Byte := v ||| (1#8 <<< b.toNat)

end Sys2Proof.Machine
end

