-- ==== Sys2Proof/Config.lean ====
section
/-! DEFINITION. Config.lean: the implementation parameters of 00_scope.md R8, as plain data. The state carries one `Config`
(log 1), so that a claim about every state is a claim about every choice of the parameters. -/

namespace Sys2Proof

/-- `UNDEF_POLICY` (R8, 47_system.md R415): what the 11 undefined opcodes do. -/
inductive UndefPolicy where
  | noop0
  | lock
deriving DecidableEq, Repr

/-- `RESET_REGS` (R8, 70_reset_and_hazards.md R482): the registers after reset. The spec leaves them free; the zeros here are
log 2's (DESIGN CHOICE). -/
structure ResetRegs where
  a : Byte := 0
  f : Byte := 0
  b : Byte := 0
  c : Byte := 0
  d : Byte := 0
  e : Byte := 0
  h : Byte := 0
  l : Byte := 0
  sp : Word := 0
deriving DecidableEq, Repr

/-- The parameters of R8. `STOP_WAKE`, R8's host event, is no value: it is `Machine.stopWake`. -/
structure Config where
  /-- Machine cycles per second (R8, R493, D19). -/
  clockRate : Nat := 1048576
  /-- The reset vector (R480, D16). -/
  resetPc : Word := 0x0000
  /-- R482. -/
  resetRegs : ResetRegs := {}
  /-- `RESET_MEM` (R486) as the bytes that differ from what an unlisted address reads as (log 3). -/
  resetMem : List (Word × Byte) := []
  /-- R415, D8: the default is the source's policy. -/
  undefPolicy : UndefPolicy := .noop0
deriving DecidableEq, Repr

/-- Every parameter at its default. -/
def Config.default : Config := {}

/-- The optional profile `DMG_POST_BOOT` (R483): the state the platform's boot program leaves. It is not the reset state of the
core, and it fixes no memory byte. -/
def Config.dmgPostBoot : Config :=
  { resetPc := 0x0100
    resetRegs := { a := 0x01, f := 0xB0, b := 0x00, c := 0x13, d := 0x00, e := 0xD8, h := 0x01, l := 0x4D, sp := 0xFFFE } }

end Sys2Proof
end

