-- ==== Sys2Proof/Machine/Memory.lean ====
section
/-! DEFINITION. Machine/Memory.lean: the one address space of 65536 bytes (20_memory.md R80, R81), as a list of cells in ONE
canonical form: addresses strictly rising, each below 65536, and no cell that holds what an unlisted address reads as. -/

namespace Sys2Proof.Machine

/-- `Mem : u16 -> u8` of R80. -/
abbrev Memory := List Host.Cell

/-- What an address that no cell lists reads as. The spec leaves memory after reset free (R486); 0x00 is DESIGN CHOICE, log 3,
unsafe. Any other reset contents are a `Config.resetMem`. -/
def Memory.unlisted : Byte := 0x00#8

/-- The byte under key `k`. -/
def Memory.get : Memory → Nat → Byte
  | [], _ => Memory.unlisted
  | (k', v) :: rest, k => if k' = k then v else Memory.get rest k

/-- The memory without any cell of key `k`. -/
def Memory.erase : Memory → Nat → Memory
  | [], _ => []
  | (k', v) :: rest, k => if k' = k then Memory.erase rest k else (k', v) :: Memory.erase rest k

/-- A cell put before the first cell of a larger key. -/
def Memory.place : Memory → Nat → Byte → Memory
  | [], k, v => [(k, v)]
  | (k', v') :: rest, k, v => if k < k' then (k, v) :: (k', v') :: rest else (k', v') :: Memory.place rest k v

/-- The bus read `read(addr) -> byte` of R83: pure, of any address (R81, R89). -/
def Memory.read (m : Memory) (a : Word) : Byte := m.get a.toNat

/-- One edit `(addr, byte)` of R84, kept canonical. -/
def Memory.write (m : Memory) (a : Word) (v : Byte) : Memory :=
  if v = Memory.unlisted then m.erase a.toNat else (m.erase a.toNat).place a.toNat v

/-- "applies edits in list order (later edits to the same address win)" (R84). -/
def Memory.writeAll (m : Memory) : List (Word × Byte) → Memory
  | [] => m
  | (a, v) :: rest => Memory.writeAll (m.write a v) rest

/-- The canonical form from key `low` on. -/
def Memory.wfFrom : Nat → Memory → Bool
  | _, [] => true
  | low, (k, v) :: rest => decide (low ≤ k) && decide (k < 65536) && decide (v ≠ Memory.unlisted) && Memory.wfFrom (k + 1) rest

/-- The canonical form. -/
def Memory.wf (m : Memory) : Bool := Memory.wfFrom 0 m

end Sys2Proof.Machine
end

