-- ==== Sys2Proof/Machine/State.lean ====
section
/-! DEFINITION. Machine/State.lean: the state of the core (10_state.md R30), its reset (70_reset_and_hazards.md R487), and the
reasons a step can stop. -/

namespace Sys2Proof.Machine

/-- The interrupt-enable scheduler (R40): "one of {Set, Unset, Scheduled}". -/
inductive IME where
  | unset
  | scheduled
  | set
deriving DecidableEq, Repr

/-- The tuple of R30, and two fields of the model's own (`cost`, `cfg`). AF, BC, DE, HL are views (R32); IE and IF are the memory
bytes 0xFFFF and 0xFF0F (R432, R433); the flags are views of F (R35). -/
structure State where
  a : Byte
  /-- The flag register (R34); its bits 3..0 are hardwired to 0, so read it through `State.readF`. -/
  f : Byte
  b : Byte
  c : Byte
  d : Byte
  e : Byte
  h : Byte
  l : Byte
  pc : Word
  sp : Word
  ime : IME
  /-- R43. -/
  halted : Bool
  /-- R44. -/
  stopped : Bool
  /-- R51. -/
  locked : Bool
  /-- R48. -/
  haltbug : Bool
  /-- R49. -/
  firstStep : Bool
  mem : Memory
  /-- THE MODEL'S OWN OUTPUT FIELD (log 5): the T-states that the step which produced this state returned (R135, R493). No step
  reads it, and it is no counter (R54). -/
  cost : Nat
  /-- THE MODEL'S OWN FIELD (log 1): the implementation parameters of R8. No step changes it. -/
  cfg : Config
deriving DecidableEq, Repr

/-- The faults of a step: none. "The core raises no synchronous exception" (60_exceptions.md R430), every address exists (R81), and
every byte decodes (R133). Nobody raises one, so a claim that a step cannot fault is safe. -/
inductive Fault where
deriving DecidableEq, Repr

/-- The refusals. No step answers one. -/
inductive Refusal where
  /-- Raised by `exec` for an instruction that has no meaning yet; no arm raises it now. Safe: the machine stops. -/
  | notModelled (mnemonic : String)
  /-- Raised by the host operation `loadBulk` for a range that extends past 0xFFFF (R97, R99, D26), as the spec says. Safe. -/
  | rangePastAddressSpace
deriving DecidableEq, Repr

/-- What an instruction, a step or a host operation answers. -/
abbrev Out := Host.Outcome State Fault Refusal

/-- Reset under the parameters `cfg` (R480 to R487): "It sets all of the state of rule R487 at once" (R488). F is reduced to its
high nibble (R482). `cost` is log 5's. -/
def State.resetWith (cfg : Config) : State :=
  { a := cfg.resetRegs.a, f := cfg.resetRegs.f &&& 0xF0#8, b := cfg.resetRegs.b, c := cfg.resetRegs.c, d := cfg.resetRegs.d
    e := cfg.resetRegs.e, h := cfg.resetRegs.h, l := cfg.resetRegs.l
    pc := cfg.resetPc, sp := cfg.resetRegs.sp, ime := .unset
    halted := false, stopped := false, locked := false, haltbug := false, firstStep := true
    mem := Memory.writeAll [] cfg.resetMem, cost := 0, cfg := cfg }

/-- The machine right after reset, every parameter at its default: PC and IME as the spec says, the registers and memory as logs 2
and 3 say. -/
def State.reset : State := State.resetWith Config.default

end Sys2Proof.Machine
end

