-- ==== Sys2Proof/Machine/Ops.lean ====
section
/-! DEFINITION. Machine/Ops.lean: the named operations over registers and memory, the State-Delta and its application (10_state.md
R45 to R47), fetch (30_encoding.md R122), the stack (46_control.md R380), and taking an interrupt with the return from one beside it
(60_exceptions.md R435 to R439, R442). -/

namespace Sys2Proof.Machine

/-! ### Registers and flags -/

/-- `R[x]` of R12. -/
def State.reg (s : State) : Reg → Byte
  | .b => s.b
  | .c => s.c
  | .d => s.d
  | .e => s.e
  | .h => s.h
  | .l => s.l
  | .a => s.a

/-- A register write stores its value modulo the register width (R47). -/
def State.setReg (s : State) (r : Reg) (v : Byte) : State :=
  match r with
  | .b => { s with b := v }
  | .c => { s with c := v }
  | .d => { s with d := v }
  | .e => { s with e := v }
  | .h => { s with h := v }
  | .l => { s with l := v }
  | .a => { s with a := v }

/-- The flags are views of F's high nibble (R34, R35). -/
def State.flags (s : State) : FlagSet := FlagSet.fromByte s.f

/-- A read of F (R34): the low nibble reads 0. -/
def State.readF (s : State) : Byte := s.flags.toByte

def State.af (s : State) : Word := pair s.a s.readF
def State.bc (s : State) : Word := pair s.b s.c
def State.de (s : State) : Word := pair s.d s.e
def State.hl (s : State) : Word := pair s.h s.l

/-- The r16 operand (R125). -/
def State.r16 (s : State) : R16 → Word
  | .bc => s.bc
  | .de => s.de
  | .hl => s.hl
  | .sp => s.sp

/-- The r16stk operand (R125). -/
def State.r16stk (s : State) : R16Stk → Word
  | .bc => s.bc
  | .de => s.de
  | .hl => s.hl
  | .af => s.af

/-! ### Memory -/

/-- `MemRead(addr, 1)` of R14 and R83. -/
def State.read (s : State) (a : Word) : Byte := s.mem.read a

/-- The 16-bit read of R14 and R85: the low byte at the lower address; the address of the high byte wraps (R82). -/
def State.read16 (s : State) (a : Word) : Word := pair (s.read (a + 1)) (s.read a)

/-- The edits of `MemWrite(addr, 2, w)` (R14): the low byte first, at the lower address. -/
def edits16 (a : Word) (w : Word) : List (Word × Byte) := [(a, lo w), (a + 1, hi w)]

/-- The high page of LDH (R127): `0xFF00 + offset`. -/
def highPage (offset : Byte) : Word := pair 0xFF#8 offset

/-- IF's address (R432). -/
def ifAddr : Word := 0xFF0F#16

/-- IE's address (R433). -/
def ieAddr : Word := 0xFFFF#16

/-! ### The State-Delta -/

/-- The State-Delta of R45. An absent field means "unchanged". -/
structure Delta where
  len : Nat
  cost : Nat
  flagZ : Option Bool := none
  flagN : Option Bool := none
  flagH : Option Bool := none
  flagC : Option Bool := none
  regs : List (Reg × Byte) := []
  f : Option Byte := none
  sp : Option Word := none
  pc : Option Word := none
  mem : List (Word × Byte) := []
  ime : Option IME := none
  halt : Bool := false
  stop : Bool := false
  lock : Bool := false
  haltbug : Bool := false
deriving DecidableEq, Repr

/-- The automatic transition of R41. -/
def autoIme : IME → IME
  | .unset => .unset
  | .scheduled => .set
  | .set => .set

/-- Steps 1 and 2 of R46: the automatic transition, then the explicit one, which wins. -/
def nextIme (explicit : Option IME) (i : IME) : IME := explicit.getD (autoIme i)

/-- Register writes in list order (R47). -/
def State.writeRegs (s : State) : List (Reg × Byte) → State
  | [] => s
  | (r, v) :: rest => State.writeRegs (s.setReg r v) rest

/-- A flag write if present: absent means unchanged (R36). -/
def mergeFlag (i : Nat) (v : Option Bool) (f : Byte) : Byte :=
  match v with
  | none => f
  | some b => putBit f i b

/-- F after the delta's write of F as a whole, if present: it stores `v & 0xF0` (R34). -/
def wholeF (d : Delta) (f : Byte) : Byte :=
  match d.f with
  | none => f
  | some v => v &&& 0xF0#8

/-- The new F (R46 step 3): an F write first, then the flag writes. -/
def nextF (d : Delta) (f : Byte) : Byte :=
  mergeFlag 7 d.flagZ (mergeFlag 6 d.flagN (mergeFlag 5 d.flagH (mergeFlag 4 d.flagC (wholeF d f))))

/-- `hb` of R122: 1 while the halt-bug latch is set. -/
def State.hb (s : State) : Word := if s.haltbug then 1#16 else 0#16

/-- The fall-through address of R137: `npc = (PC + len - hb) mod 2^16`. -/
def State.npc (s : State) (len : Nat) : Word := s.pc + BitVec.ofNat 16 len - s.hb

/-- The PC update of R137: a control transfer wins, a zero-length delta leaves PC, any other falls through. -/
def nextPc (d : Delta) (s : State) : Word :=
  match d.pc with
  | some target => target
  | none => if d.len = 0 then s.pc else s.npc d.len

/-- The application of a delta, one atomic change of state (R46). `cost` is the value the step returns (log 5). -/
def applyDelta (d : Delta) (s : State) : State :=
  { s.writeRegs d.regs with
    f := nextF d s.f
    sp := d.sp.getD s.sp
    ime := nextIme d.ime s.ime
    mem := s.mem.writeAll d.mem
    pc := nextPc d s
    halted := s.halted || d.halt
    stopped := s.stopped || d.stop
    locked := s.locked || d.lock
    haltbug := d.haltbug
    cost := d.cost }

/-- The end of every meaning: its delta, computed from the pre-step state, is applied (R136). -/
def commit (d : Delta) (s : State) : Out := .next (applyDelta d s)

/-- `R16[p] <- w` is two 8-bit writes, the high register first (R33); `SP <- w` is one. -/
def Delta.setR16 (d : Delta) (p : R16) (w : Word) : Delta :=
  match p with
  | .bc => { d with regs := d.regs ++ [(.b, hi w), (.c, lo w)] }
  | .de => { d with regs := d.regs ++ [(.d, hi w), (.e, lo w)] }
  | .hl => { d with regs := d.regs ++ [(.h, hi w), (.l, lo w)] }
  | .sp => { d with sp := some w }

/-- All four flags of an ALU result. -/
def Delta.setAluFlags (d : Delta) (o : AluResult) : Delta :=
  { d with flagZ := some o.z, flagN := some o.n, flagH := some o.h, flagC := some o.c }

/-! ### The stack -/

/-- The two edits of a push (R244, R380): the high byte at SP-1, then the low byte at SP-2. -/
def pushEdits (sp w : Word) : List (Word × Byte) := [(sp - 1, hi w), (sp - 2, lo w)]

/-- `push16(w)` of R380. -/
def Delta.push16 (d : Delta) (s : State) (w : Word) : Delta :=
  { d with mem := d.mem ++ pushEdits s.sp w, sp := some (s.sp - 2) }

/-- `pop16()` of R380: SP moves up by 2; the popped word is `s.read16 s.sp`. -/
def Delta.pop16 (d : Delta) (s : State) : Delta := { d with sp := some (s.sp + 2) }

/-! ### Interrupts -/

/-- The pending set (R435): `MemRead(0xFFFF,1) & MemRead(0xFF0F,1) & 0x1F`. -/
def State.pending (s : State) : Byte := s.read ieAddr &&& s.read ifAddr &&& 0x1F#8

/-- `n = min { i | pend[i] = 1 }` of R437, for a pending set that is not empty. -/
def lowestPending (pend : Byte) : Nat :=
  if pend.getLsbD 0 then 0
  else if pend.getLsbD 1 then 1
  else if pend.getLsbD 2 then 2
  else if pend.getLsbD 3 then 3
  else 4

/-- The vector of interrupt `n` (R439): `0x0040 + 8 * n`. -/
def interruptVector (n : Nat) : Word := 0x0040#16 + BitVec.ofNat 16 (8 * n)

/-- The three memory edits of a dispatch, in the order of R438 (D32): the IF bit clear, then the two pushes of PC. -/
def dispatchEdits (n : Nat) (s : State) : List (Word × Byte) :=
  (ifAddr, putBit (s.read ifAddr) n false) :: pushEdits s.sp s.pc

/-- TAKING AN INTERRUPT (R438): the one shared entry. The saved state is PC alone; IME becomes Unset; PC is the vector. -/
def takeInterrupt (s : State) : State :=
  let n := lowestPending s.pending
  { s with
    mem := s.mem.writeAll (dispatchEdits n s)
    sp := s.sp - 2
    pc := interruptVector n
    ime := .unset
    halted := false
    cost := 20 }

/-- THE RETURN FROM AN INTERRUPT (R390, R442): PC is popped and IME is Set with no delay. Nothing else is restored. -/
def Delta.returnFromInterrupt (d : Delta) (s : State) : Delta :=
  { d.pop16 s with pc := some (s.read16 s.sp), ime := some .set }

/-! ### Fetch -/

/-- `b0` of R122. -/
def State.fetchOpcode (s : State) : Byte := s.read s.pc

/-- `b1` of R122: one address early under the halt bug. -/
def State.fetchB1 (s : State) : Byte := s.read (s.pc + 1 - s.hb)

/-- `b2` of R122. -/
def State.fetchB2 (s : State) : Byte := s.read (s.pc + 2 - s.hb)

/-- The state with the bytes at `start`, `start + 1`, … replaced by `bytes`. -/
def State.withBytes (s : State) (start : Word) : List Byte → State
  | [] => s
  | v :: rest => State.withBytes { s with mem := s.mem.write start v } (start + 1) rest

/-- The state made ready to fetch at PC (log 10): not locked, stopped, halted, nor under the halt bug, and with interrupts disabled
if one would be dispatched instead. -/
def State.readyToFetch (s : State) : State :=
  { s with
    locked := false
    stopped := false
    halted := false
    haltbug := false
    ime := if s.ime = .set ∧ s.pending ≠ 0#8 then .unset else s.ime }

end Sys2Proof.Machine
end

