-- ==== Sys2Proof/Machine/Operands.lean ====
section
/-! DEFINITION. Machine/Operands.lean: the operand forms of 30_encoding.md R124 to R127, read from a state and written into a
State-Delta. -/

namespace Sys2Proof.Machine

/-- `get(z)` of R344 and R124: a register, or the memory byte at HL. -/
def State.r8 (s : State) : R8 → Byte
  | .reg r => s.reg r
  | .memHL => s.read s.hl

/-- `put(z, v)` of R344: a register write, or a memory edit at HL. -/
def Delta.setR8 (d : Delta) (s : State) (z : R8) (v : Byte) : Delta :=
  match z with
  | .reg r => { d with regs := d.regs ++ [(r, v)] }
  | .memHL => { d with mem := d.mem ++ [(s.hl, v)] }

/-- The cost of an instruction by its r8 operand: `reg` for a register, `mem` for (HL). -/
def r8Cost (z : R8) (reg mem : Nat) : Nat :=
  match z with
  | .reg _ => reg
  | .memHL => mem

/-- The ALU's second operand (R260). -/
def State.aluSrc (s : State) : AluSrc → Byte
  | .reg r => s.reg r
  | .memHL => s.read s.hl
  | .imm n => n

/-- The length of an ALU instruction by its second operand (R260). -/
def aluLen : AluSrc → Nat
  | .reg _ => 1
  | .memHL => 1
  | .imm _ => 2

/-- The cost of an ALU instruction by its second operand (R260). -/
def aluCost : AluSrc → Nat
  | .reg _ => 4
  | .memHL => 8
  | .imm _ => 8

/-- `cond(cc)` of R126, on the flags before the instruction. -/
def State.cond (s : State) : Cond → Bool
  | .nz => !s.flags.z
  | .z => s.flags.z
  | .nc => !s.flags.c
  | .c => s.flags.c

/-- The address a `(r16mem)` operand names (R125): BC, DE, or HL before its post-modification. -/
def State.r16memAddr (s : State) : R16Mem → Word
  | .bc => s.bc
  | .de => s.de
  | .hlInc => s.hl
  | .hlDec => s.hl

/-- The post-modification of a `(r16mem)` operand (R125). -/
def Delta.postModify (d : Delta) (s : State) : R16Mem → Delta
  | .bc => d
  | .de => d
  | .hlInc => d.setR16 .hl (s.hl + 1)
  | .hlDec => d.setR16 .hl (s.hl - 1)

end Sys2Proof.Machine
end

