-- ==== Sys2Proof/Machine/Load16.lean ====
section
/-! DEFINITION. Machine/Load16.lean: the 16-bit loads, PUSH and POP (42_load16.md R240 to R246). -/

namespace Sys2Proof.Machine

/-- `LD r16,n16` (R240). -/
def loadR16 (p : R16) (n : Word) (s : State) : Out :=
  commit (({ len := 3, cost := 12 } : Delta).setR16 p n) s

/-- `LD (a16),SP` (R241): low byte first. -/
def storeSP (addr : Word) (s : State) : Out :=
  commit { len := 3, cost := 20, mem := edits16 addr s.sp } s

/-- `LD SP,HL` (R242). -/
def loadSPHL (s : State) : Out :=
  commit { len := 1, cost := 8, sp := some s.hl } s

/-- The delta fields that `LD HL,SP+e8` and `ADD SP,e8` share: Z and N clear, H and C of R324. -/
def spOffsetDelta (cost : Nat) (e : Byte) (s : State) : Delta :=
  let hc := spOffsetFlags s.sp e
  { len := 2, cost := cost, flagZ := some false, flagN := some false, flagH := some hc.1, flagC := some hc.2 }

/-- `LD HL,SP+e8` (R243). -/
def loadHLSPOffset (e : Byte) (s : State) : Out :=
  commit ((spOffsetDelta 12 e s).setR16 .hl (s.sp + sext16 e)) s

/-- `PUSH r16stk` (R244). -/
def pushR16 (p : R16Stk) (s : State) : Out :=
  commit (({ len := 1, cost := 16 } : Delta).push16 s (s.r16stk p)) s

/-- `POP r16` for BC, DE, HL (R245), and `POP AF` (R246), which writes F as a whole. -/
def popR16 (p : R16Stk) (s : State) : Out :=
  let w := s.read16 s.sp
  let d : Delta := Delta.pop16 { len := 1, cost := 12 } s
  match p with
  | .bc => commit (d.setR16 .bc w) s
  | .de => commit (d.setR16 .de w) s
  | .hl => commit (d.setR16 .hl w) s
  | .af => commit { d with regs := [(.a, hi w)], f := some (lo w) } s

/-! ### The instructions -/

/-- `LD BC,n16`, 0x01 (R240). -/
def execLdBCn16 (n : Word) (s : State) : Out := loadR16 .bc n s
/-- `LD (a16),SP`, 0x08 (R241). -/
def execLdMema16SP (a : Word) (s : State) : Out := storeSP a s
/-- `LD DE,n16`, 0x11 (R240). -/
def execLdDEn16 (n : Word) (s : State) : Out := loadR16 .de n s
/-- `LD HL,n16`, 0x21 (R240). -/
def execLdHLn16 (n : Word) (s : State) : Out := loadR16 .hl n s
/-- `LD SP,n16`, 0x31 (R240). -/
def execLdSPn16 (n : Word) (s : State) : Out := loadR16 .sp n s
/-- `POP BC`, 0xC1 (R245). -/
def execPopBC (s : State) : Out := popR16 .bc s
/-- `PUSH BC`, 0xC5 (R244). -/
def execPushBC (s : State) : Out := pushR16 .bc s
/-- `POP DE`, 0xD1 (R245). -/
def execPopDE (s : State) : Out := popR16 .de s
/-- `PUSH DE`, 0xD5 (R244). -/
def execPushDE (s : State) : Out := pushR16 .de s
/-- `POP HL`, 0xE1 (R245). -/
def execPopHL (s : State) : Out := popR16 .hl s
/-- `PUSH HL`, 0xE5 (R244). -/
def execPushHL (s : State) : Out := pushR16 .hl s
/-- `POP AF`, 0xF1 (R246). -/
def execPopAF (s : State) : Out := popR16 .af s
/-- `PUSH AF`, 0xF5 (R244). -/
def execPushAF (s : State) : Out := pushR16 .af s
/-- `LD HL,SP+e8`, 0xF8 (R243). -/
def execLdHLSPe8 (e : Byte) (s : State) : Out := loadHLSPOffset e s
/-- `LD SP,HL`, 0xF9 (R242). -/
def execLdSPHL (s : State) : Out := loadSPHL s

end Sys2Proof.Machine
end

