-- ==== Sys2Proof/Machine/Alu16.lean ====
section
/-! DEFINITION. Machine/Alu16.lean: 16-bit arithmetic (44_alu16.md R320 to R325). -/

namespace Sys2Proof.Machine

/-- `ADD HL,r16` (R321). Z is unchanged. -/
def addHL (p : R16) (s : State) : Out :=
  let r := add16 s.hl (s.r16 p)
  commit (({ len := 1, cost := 8, flagN := some false, flagH := some r.2.1, flagC := some r.2.2 } : Delta).setR16 .hl r.1) s

/-- `INC r16` (R322) and `DEC r16` (R323): the pair plus `k`, no flag written. -/
def bumpR16 (k : Word) (p : R16) (s : State) : Out :=
  commit (({ len := 1, cost := 8 } : Delta).setR16 p (s.r16 p + k)) s

/-- `ADD SP,e8` (R325). -/
def addSPOffset (e : Byte) (s : State) : Out :=
  commit { spOffsetDelta 16 e s with sp := some (s.sp + sext16 e) } s

/-! ### The instructions -/

/-- `INC BC`, 0x03 (R322). -/
def execIncBC (s : State) : Out := bumpR16 1#16 .bc s
/-- `ADD HL,BC`, 0x09 (R321). -/
def execAddHLBC (s : State) : Out := addHL .bc s
/-- `DEC BC`, 0x0B (R323). -/
def execDecBC (s : State) : Out := bumpR16 (-1#16) .bc s
/-- `INC DE`, 0x13 (R322). -/
def execIncDE (s : State) : Out := bumpR16 1#16 .de s
/-- `ADD HL,DE`, 0x19 (R321). -/
def execAddHLDE (s : State) : Out := addHL .de s
/-- `DEC DE`, 0x1B (R323). -/
def execDecDE (s : State) : Out := bumpR16 (-1#16) .de s
/-- `INC HL`, 0x23 (R322). -/
def execIncHL (s : State) : Out := bumpR16 1#16 .hl s
/-- `ADD HL,HL`, 0x29 (R321). -/
def execAddHLHL (s : State) : Out := addHL .hl s
/-- `DEC HL`, 0x2B (R323). -/
def execDecHL (s : State) : Out := bumpR16 (-1#16) .hl s
/-- `INC SP`, 0x33 (R322). -/
def execIncSP (s : State) : Out := bumpR16 1#16 .sp s
/-- `ADD HL,SP`, 0x39 (R321). -/
def execAddHLSP (s : State) : Out := addHL .sp s
/-- `DEC SP`, 0x3B (R323). -/
def execDecSP (s : State) : Out := bumpR16 (-1#16) .sp s
/-- `ADD SP,e8`, 0xE8 (R325). -/
def execAddSPe8 (e : Byte) (s : State) : Out := addSPOffset e s

end Sys2Proof.Machine
end

