-- ==== Sys2Proof/Machine/Alu8.lean ====
section
/-! DEFINITION. Machine/Alu8.lean: 8-bit arithmetic and logic (43_alu8.md R260 to R294). -/

namespace Sys2Proof.Machine

/-- ADD, ADC, SUB, SBC, AND, XOR, OR, CP on A and the second operand (R260, R263 to R286). CP writes no register. -/
def aluOnA (op : AluOp) (src : AluSrc) (s : State) : Out :=
  let o := alu8 op s.a (s.aluSrc src) s.flags.c
  commit (({ len := aluLen src, cost := aluCost src, regs := if aluWritesA op then [(.a, o.res)] else [] } : Delta).setAluFlags o) s

/-- `INC r` and `INC (HL)` (R287, R288). C is unchanged. -/
def incR8 (z : R8) (s : State) : Out :=
  let v := s.r8 z
  let res := v + 1
  commit (({ len := 1, cost := r8Cost z 4 12, flagZ := some (decide (res = 0#8)), flagN := some false,
             flagH := some (incHalf v) } : Delta).setR8 s z res) s

/-- `DEC r` and `DEC (HL)` (R289, R290). C is unchanged. -/
def decR8 (z : R8) (s : State) : Out :=
  let v := s.r8 z
  let res := v - 1
  commit (({ len := 1, cost := r8Cost z 4 12, flagZ := some (decide (res = 0#8)), flagN := some true,
             flagH := some (decHalf v) } : Delta).setR8 s z res) s

/-- `DAA` (R291). N is unchanged. -/
def decimalAdjust (s : State) : Out :=
  let r := daa s.a s.flags.n s.flags.h s.flags.c
  commit { len := 1, cost := 4, regs := [(.a, r.1)], flagZ := some (decide (r.1 = 0#8)), flagH := some false, flagC := some r.2 } s

/-- `CPL` (R292). -/
def complementA (s : State) : Out :=
  commit { len := 1, cost := 4, regs := [(.a, ~~~s.a)], flagN := some true, flagH := some true } s

/-- `SCF` (R293) and `CCF` (R294): C becomes `c`; N and H are cleared. -/
def writeCarry (c : Bool) (s : State) : Out :=
  commit { len := 1, cost := 4, flagN := some false, flagH := some false, flagC := some c } s

/-! ### The instructions -/

/-- `INC B`, 0x04 (R287). -/
def execIncB (s : State) : Out := incR8 (.reg .b) s
/-- `DEC B`, 0x05 (R289). -/
def execDecB (s : State) : Out := decR8 (.reg .b) s
/-- `INC C`, 0x0C (R287). -/
def execIncC (s : State) : Out := incR8 (.reg .c) s
/-- `DEC C`, 0x0D (R289). -/
def execDecC (s : State) : Out := decR8 (.reg .c) s
/-- `INC D`, 0x14 (R287). -/
def execIncD (s : State) : Out := incR8 (.reg .d) s
/-- `DEC D`, 0x15 (R289). -/
def execDecD (s : State) : Out := decR8 (.reg .d) s
/-- `INC E`, 0x1C (R287). -/
def execIncE (s : State) : Out := incR8 (.reg .e) s
/-- `DEC E`, 0x1D (R289). -/
def execDecE (s : State) : Out := decR8 (.reg .e) s
/-- `INC H`, 0x24 (R287). -/
def execIncH (s : State) : Out := incR8 (.reg .h) s
/-- `DEC H`, 0x25 (R289). -/
def execDecH (s : State) : Out := decR8 (.reg .h) s
/-- `DAA`, 0x27 (R291). -/
def execDaa (s : State) : Out := decimalAdjust s
/-- `INC L`, 0x2C (R287). -/
def execIncL (s : State) : Out := incR8 (.reg .l) s
/-- `DEC L`, 0x2D (R289). -/
def execDecL (s : State) : Out := decR8 (.reg .l) s
/-- `CPL`, 0x2F (R292). -/
def execCpl (s : State) : Out := complementA s
/-- `INC (HL)`, 0x34 (R288). -/
def execIncMemHL (s : State) : Out := incR8 .memHL s
/-- `DEC (HL)`, 0x35 (R290). -/
def execDecMemHL (s : State) : Out := decR8 .memHL s
/-- `SCF`, 0x37 (R293). -/
def execScf (s : State) : Out := writeCarry true s
/-- `INC A`, 0x3C (R287). -/
def execIncA (s : State) : Out := incR8 (.reg .a) s
/-- `DEC A`, 0x3D (R289). -/
def execDecA (s : State) : Out := decR8 (.reg .a) s
/-- `CCF`, 0x3F (R294). -/
def execCcf (s : State) : Out := writeCarry (!s.flags.c) s
/-- `ADD A,B`, 0x80 (R263). -/
def execAddAB (s : State) : Out := aluOnA .add (.reg .b) s
/-- `ADD A,C`, 0x81 (R263). -/
def execAddAC (s : State) : Out := aluOnA .add (.reg .c) s
/-- `ADD A,D`, 0x82 (R263). -/
def execAddAD (s : State) : Out := aluOnA .add (.reg .d) s
/-- `ADD A,E`, 0x83 (R263). -/
def execAddAE (s : State) : Out := aluOnA .add (.reg .e) s
/-- `ADD A,H`, 0x84 (R263). -/
def execAddAH (s : State) : Out := aluOnA .add (.reg .h) s
/-- `ADD A,L`, 0x85 (R263). -/
def execAddAL (s : State) : Out := aluOnA .add (.reg .l) s
/-- `ADD A,(HL)`, 0x86 (R264). -/
def execAddAMemHL (s : State) : Out := aluOnA .add .memHL s
/-- `ADD A,A`, 0x87 (R263). -/
def execAddAA (s : State) : Out := aluOnA .add (.reg .a) s
/-- `ADC A,B`, 0x88 (R266). -/
def execAdcAB (s : State) : Out := aluOnA .adc (.reg .b) s
/-- `ADC A,C`, 0x89 (R266). -/
def execAdcAC (s : State) : Out := aluOnA .adc (.reg .c) s
/-- `ADC A,D`, 0x8A (R266). -/
def execAdcAD (s : State) : Out := aluOnA .adc (.reg .d) s
/-- `ADC A,E`, 0x8B (R266). -/
def execAdcAE (s : State) : Out := aluOnA .adc (.reg .e) s
/-- `ADC A,H`, 0x8C (R266). -/
def execAdcAH (s : State) : Out := aluOnA .adc (.reg .h) s
/-- `ADC A,L`, 0x8D (R266). -/
def execAdcAL (s : State) : Out := aluOnA .adc (.reg .l) s
/-- `ADC A,(HL)`, 0x8E (R267). -/
def execAdcAMemHL (s : State) : Out := aluOnA .adc .memHL s
/-- `ADC A,A`, 0x8F (R266). -/
def execAdcAA (s : State) : Out := aluOnA .adc (.reg .a) s
/-- `SUB B`, 0x90 (R269). -/
def execSubB (s : State) : Out := aluOnA .sub (.reg .b) s
/-- `SUB C`, 0x91 (R269). -/
def execSubC (s : State) : Out := aluOnA .sub (.reg .c) s
/-- `SUB D`, 0x92 (R269). -/
def execSubD (s : State) : Out := aluOnA .sub (.reg .d) s
/-- `SUB E`, 0x93 (R269). -/
def execSubE (s : State) : Out := aluOnA .sub (.reg .e) s
/-- `SUB H`, 0x94 (R269). -/
def execSubH (s : State) : Out := aluOnA .sub (.reg .h) s
/-- `SUB L`, 0x95 (R269). -/
def execSubL (s : State) : Out := aluOnA .sub (.reg .l) s
/-- `SUB (HL)`, 0x96 (R270). -/
def execSubMemHL (s : State) : Out := aluOnA .sub .memHL s
/-- `SUB A`, 0x97 (R269). -/
def execSubA (s : State) : Out := aluOnA .sub (.reg .a) s
/-- `SBC A,B`, 0x98 (R272). -/
def execSbcAB (s : State) : Out := aluOnA .sbc (.reg .b) s
/-- `SBC A,C`, 0x99 (R272). -/
def execSbcAC (s : State) : Out := aluOnA .sbc (.reg .c) s
/-- `SBC A,D`, 0x9A (R272). -/
def execSbcAD (s : State) : Out := aluOnA .sbc (.reg .d) s
/-- `SBC A,E`, 0x9B (R272). -/
def execSbcAE (s : State) : Out := aluOnA .sbc (.reg .e) s
/-- `SBC A,H`, 0x9C (R272). -/
def execSbcAH (s : State) : Out := aluOnA .sbc (.reg .h) s
/-- `SBC A,L`, 0x9D (R272). -/
def execSbcAL (s : State) : Out := aluOnA .sbc (.reg .l) s
/-- `SBC A,(HL)`, 0x9E (R273). -/
def execSbcAMemHL (s : State) : Out := aluOnA .sbc .memHL s
/-- `SBC A,A`, 0x9F (R272). -/
def execSbcAA (s : State) : Out := aluOnA .sbc (.reg .a) s
/-- `AND B`, 0xA0 (R275). -/
def execAndB (s : State) : Out := aluOnA .and (.reg .b) s
/-- `AND C`, 0xA1 (R275). -/
def execAndC (s : State) : Out := aluOnA .and (.reg .c) s
/-- `AND D`, 0xA2 (R275). -/
def execAndD (s : State) : Out := aluOnA .and (.reg .d) s
/-- `AND E`, 0xA3 (R275). -/
def execAndE (s : State) : Out := aluOnA .and (.reg .e) s
/-- `AND H`, 0xA4 (R275). -/
def execAndH (s : State) : Out := aluOnA .and (.reg .h) s
/-- `AND L`, 0xA5 (R275). -/
def execAndL (s : State) : Out := aluOnA .and (.reg .l) s
/-- `AND (HL)`, 0xA6 (R276). -/
def execAndMemHL (s : State) : Out := aluOnA .and .memHL s
/-- `AND A`, 0xA7 (R275). -/
def execAndA (s : State) : Out := aluOnA .and (.reg .a) s
/-- `XOR B`, 0xA8 (R278). -/
def execXorB (s : State) : Out := aluOnA .xor (.reg .b) s
/-- `XOR C`, 0xA9 (R278). -/
def execXorC (s : State) : Out := aluOnA .xor (.reg .c) s
/-- `XOR D`, 0xAA (R278). -/
def execXorD (s : State) : Out := aluOnA .xor (.reg .d) s
/-- `XOR E`, 0xAB (R278). -/
def execXorE (s : State) : Out := aluOnA .xor (.reg .e) s
/-- `XOR H`, 0xAC (R278). -/
def execXorH (s : State) : Out := aluOnA .xor (.reg .h) s
/-- `XOR L`, 0xAD (R278). -/
def execXorL (s : State) : Out := aluOnA .xor (.reg .l) s
/-- `XOR (HL)`, 0xAE (R279). -/
def execXorMemHL (s : State) : Out := aluOnA .xor .memHL s
/-- `XOR A`, 0xAF (R278). -/
def execXorA (s : State) : Out := aluOnA .xor (.reg .a) s
/-- `OR B`, 0xB0 (R281). -/
def execOrB (s : State) : Out := aluOnA .or (.reg .b) s
/-- `OR C`, 0xB1 (R281). -/
def execOrC (s : State) : Out := aluOnA .or (.reg .c) s
/-- `OR D`, 0xB2 (R281). -/
def execOrD (s : State) : Out := aluOnA .or (.reg .d) s
/-- `OR E`, 0xB3 (R281). -/
def execOrE (s : State) : Out := aluOnA .or (.reg .e) s
/-- `OR H`, 0xB4 (R281). -/
def execOrH (s : State) : Out := aluOnA .or (.reg .h) s
/-- `OR L`, 0xB5 (R281). -/
def execOrL (s : State) : Out := aluOnA .or (.reg .l) s
/-- `OR (HL)`, 0xB6 (R282). -/
def execOrMemHL (s : State) : Out := aluOnA .or .memHL s
/-- `OR A`, 0xB7 (R281). -/
def execOrA (s : State) : Out := aluOnA .or (.reg .a) s
/-- `CP B`, 0xB8 (R284). -/
def execCpB (s : State) : Out := aluOnA .cp (.reg .b) s
/-- `CP C`, 0xB9 (R284). -/
def execCpC (s : State) : Out := aluOnA .cp (.reg .c) s
/-- `CP D`, 0xBA (R284). -/
def execCpD (s : State) : Out := aluOnA .cp (.reg .d) s
/-- `CP E`, 0xBB (R284). -/
def execCpE (s : State) : Out := aluOnA .cp (.reg .e) s
/-- `CP H`, 0xBC (R284). -/
def execCpH (s : State) : Out := aluOnA .cp (.reg .h) s
/-- `CP L`, 0xBD (R284). -/
def execCpL (s : State) : Out := aluOnA .cp (.reg .l) s
/-- `CP (HL)`, 0xBE (R285). -/
def execCpMemHL (s : State) : Out := aluOnA .cp .memHL s
/-- `CP A`, 0xBF (R284). -/
def execCpA (s : State) : Out := aluOnA .cp (.reg .a) s
/-- `ADD A,n8`, 0xC6 (R265). -/
def execAddAn8 (n : Byte) (s : State) : Out := aluOnA .add (.imm n) s
/-- `ADC A,n8`, 0xCE (R268). -/
def execAdcAn8 (n : Byte) (s : State) : Out := aluOnA .adc (.imm n) s
/-- `SUB n8`, 0xD6 (R271). -/
def execSubn8 (n : Byte) (s : State) : Out := aluOnA .sub (.imm n) s
/-- `SBC A,n8`, 0xDE (R274). -/
def execSbcAn8 (n : Byte) (s : State) : Out := aluOnA .sbc (.imm n) s
/-- `AND n8`, 0xE6 (R277). -/
def execAndn8 (n : Byte) (s : State) : Out := aluOnA .and (.imm n) s
/-- `XOR n8`, 0xEE (R280). -/
def execXorn8 (n : Byte) (s : State) : Out := aluOnA .xor (.imm n) s
/-- `OR n8`, 0xF6 (R283). -/
def execOrn8 (n : Byte) (s : State) : Out := aluOnA .or (.imm n) s
/-- `CP n8`, 0xFE (R286). -/
def execCpn8 (n : Byte) (s : State) : Out := aluOnA .cp (.imm n) s

end Sys2Proof.Machine
end

