-- ==== Sys2Proof/Machine/Control.lean ====
section
/-! DEFINITION. Machine/Control.lean: jumps, calls, returns and restarts (46_control.md R380 to R391). No flag is written. -/

namespace Sys2Proof.Machine

/-- A jump to `target` (R381, R383, R384). -/
def jumpTo (len cost : Nat) (target : Word) (s : State) : Out :=
  commit { len := len, cost := cost, pc := some target } s

/-- A conditional transfer that is not taken: it falls through (R382, R385, R387, R389). -/
def notTaken (len cost : Nat) (s : State) : Out :=
  commit { len := len, cost := cost } s

/-- The target of JR (R384): relative to the next instruction. -/
def relativeTarget (e : Byte) (s : State) : Word := s.npc 2 + sext16 e

/-- A call (R386, R391): the fall-through address is pushed. -/
def callTo (len cost : Nat) (target : Word) (s : State) : Out :=
  commit { ({ len := len, cost := cost } : Delta).push16 s (s.npc len) with pc := some target } s

/-- A return (R388). -/
def returnFromCall (cost : Nat) (s : State) : Out :=
  commit { ({ len := 1, cost := cost } : Delta).pop16 s with pc := some (s.read16 s.sp) } s

/-- `JP cc,a16` (R382). -/
def jumpIf (cc : Cond) (target : Word) (s : State) : Out :=
  if s.cond cc then jumpTo 3 16 target s else notTaken 3 12 s

/-- `JR cc,e8` (R385). -/
def jumpRelativeIf (cc : Cond) (e : Byte) (s : State) : Out :=
  if s.cond cc then jumpTo 2 12 (relativeTarget e s) s else notTaken 2 8 s

/-- `CALL cc,a16` (R387). -/
def callIf (cc : Cond) (target : Word) (s : State) : Out :=
  if s.cond cc then callTo 3 24 target s else notTaken 3 12 s

/-- `RET cc` (R389). -/
def returnIf (cc : Cond) (s : State) : Out :=
  if s.cond cc then returnFromCall 20 s else notTaken 1 8 s

/-- `RST vec` (R391), `vec = y * 8`. -/
def restart (y : BitVec 3) (s : State) : Out :=
  callTo 1 16 (BitVec.ofNat 16 (8 * y.toNat)) s

/-! ### The instructions -/

/-- `JR e8`, 0x18 (R384). -/
def execJre8 (e : Byte) (s : State) : Out := jumpTo 2 12 (relativeTarget e s) s
/-- `JR NZ,e8`, 0x20 (R385). -/
def execJrNZe8 (e : Byte) (s : State) : Out := jumpRelativeIf .nz e s
/-- `JR Z,e8`, 0x28 (R385). -/
def execJrZe8 (e : Byte) (s : State) : Out := jumpRelativeIf .z e s
/-- `JR NC,e8`, 0x30 (R385). -/
def execJrNCe8 (e : Byte) (s : State) : Out := jumpRelativeIf .nc e s
/-- `JR C,e8`, 0x38 (R385). -/
def execJrCe8 (e : Byte) (s : State) : Out := jumpRelativeIf .c e s
/-- `RET NZ`, 0xC0 (R389). -/
def execRetNZ (s : State) : Out := returnIf .nz s
/-- `JP NZ,a16`, 0xC2 (R382). -/
def execJpNZa16 (a : Word) (s : State) : Out := jumpIf .nz a s
/-- `JP a16`, 0xC3 (R381). -/
def execJpa16 (a : Word) (s : State) : Out := jumpTo 3 16 a s
/-- `CALL NZ,a16`, 0xC4 (R387). -/
def execCallNZa16 (a : Word) (s : State) : Out := callIf .nz a s
/-- `RST $00`, 0xC7 (R391). -/
def execRst00 (s : State) : Out := restart 0#3 s
/-- `RET Z`, 0xC8 (R389). -/
def execRetZ (s : State) : Out := returnIf .z s
/-- `RET`, 0xC9 (R388). -/
def execRet (s : State) : Out := returnFromCall 16 s
/-- `JP Z,a16`, 0xCA (R382). -/
def execJpZa16 (a : Word) (s : State) : Out := jumpIf .z a s
/-- `CALL Z,a16`, 0xCC (R387). -/
def execCallZa16 (a : Word) (s : State) : Out := callIf .z a s
/-- `CALL a16`, 0xCD (R386). -/
def execCalla16 (a : Word) (s : State) : Out := callTo 3 24 a s
/-- `RST $08`, 0xCF (R391). -/
def execRst08 (s : State) : Out := restart 1#3 s
/-- `RET NC`, 0xD0 (R389). -/
def execRetNC (s : State) : Out := returnIf .nc s
/-- `JP NC,a16`, 0xD2 (R382). -/
def execJpNCa16 (a : Word) (s : State) : Out := jumpIf .nc a s
/-- `CALL NC,a16`, 0xD4 (R387). -/
def execCallNCa16 (a : Word) (s : State) : Out := callIf .nc a s
/-- `RST $10`, 0xD7 (R391). -/
def execRst10 (s : State) : Out := restart 2#3 s
/-- `RET C`, 0xD8 (R389). -/
def execRetC (s : State) : Out := returnIf .c s
/-- `RETI`, 0xD9 (R390). -/
def execReti (s : State) : Out := commit (({ len := 1, cost := 16 } : Delta).returnFromInterrupt s) s
/-- `JP C,a16`, 0xDA (R382). -/
def execJpCa16 (a : Word) (s : State) : Out := jumpIf .c a s
/-- `CALL C,a16`, 0xDC (R387). -/
def execCallCa16 (a : Word) (s : State) : Out := callIf .c a s
/-- `RST $18`, 0xDF (R391). -/
def execRst18 (s : State) : Out := restart 3#3 s
/-- `RST $20`, 0xE7 (R391). -/
def execRst20 (s : State) : Out := restart 4#3 s
/-- `JP HL`, 0xE9 (R383). -/
def execJpHL (s : State) : Out := jumpTo 1 4 s.hl s
/-- `RST $28`, 0xEF (R391). -/
def execRst28 (s : State) : Out := restart 5#3 s
/-- `RST $30`, 0xF7 (R391). -/
def execRst30 (s : State) : Out := restart 6#3 s
/-- `RST $38`, 0xFF (R391). -/
def execRst38 (s : State) : Out := restart 7#3 s

end Sys2Proof.Machine
end

