-- ==== Sys2Proof/Machine/Load8.lean ====
section
/-! DEFINITION. Machine/Load8.lean: the 8-bit loads and stores (41_load8.md R200 to R218). No flag is written. -/

namespace Sys2Proof.Machine

/-- `LD r,r'` (R200). -/
def loadReg (dst z : Reg) (s : State) : Out :=
  commit { len := 1, cost := 4, regs := [(dst, s.reg z)] } s

/-- `LD r,n8` (R201). -/
def loadImm (dst : Reg) (n : Byte) (s : State) : Out :=
  commit { len := 2, cost := 8, regs := [(dst, n)] } s

/-- `LD r,(HL)` (R202). -/
def loadMemHL (dst : Reg) (s : State) : Out :=
  commit { len := 1, cost := 8, regs := [(dst, s.read s.hl)] } s

/-- `LD (HL),r` (R203). -/
def storeMemHL (z : Reg) (s : State) : Out :=
  commit { len := 1, cost := 8, mem := [(s.hl, s.reg z)] } s

/-- `LD (HL),n8` (R204). -/
def storeMemHLImm (n : Byte) (s : State) : Out :=
  commit { len := 2, cost := 12, mem := [(s.hl, n)] } s

/-- `LD A,(r16mem)` (R205, R206, R215, R216). -/
def loadA (p : R16Mem) (s : State) : Out :=
  commit (({ len := 1, cost := 8, regs := [(.a, s.read (s.r16memAddr p))] } : Delta).postModify s p) s

/-- `LD (r16mem),A` (R207, R208, R217, R218). -/
def storeA (p : R16Mem) (s : State) : Out :=
  commit (({ len := 1, cost := 8, mem := [(s.r16memAddr p, s.a)] } : Delta).postModify s p) s

/-- A load of A from an address the instruction gives: `LD A,(a16)`, `LDH A,(C)`, `LDH A,(a8)` (R209, R211, R213). -/
def loadAFrom (len cost : Nat) (addr : Word) (s : State) : Out :=
  commit { len := len, cost := cost, regs := [(.a, s.read addr)] } s

/-- A store of A at an address the instruction gives: `LD (a16),A`, `LDH (C),A`, `LDH (a8),A` (R210, R212, R214). -/
def storeATo (len cost : Nat) (addr : Word) (s : State) : Out :=
  commit { len := len, cost := cost, mem := [(addr, s.a)] } s

/-! ### The instructions -/

/-- `LD (BC),A`, 0x02 (R207). -/
def execLdMemBCA (s : State) : Out := storeA .bc s
/-- `LD B,n8`, 0x06 (R201). -/
def execLdBn8 (n : Byte) (s : State) : Out := loadImm .b n s
/-- `LD A,(BC)`, 0x0A (R205). -/
def execLdAMemBC (s : State) : Out := loadA .bc s
/-- `LD C,n8`, 0x0E (R201). -/
def execLdCn8 (n : Byte) (s : State) : Out := loadImm .c n s
/-- `LD (DE),A`, 0x12 (R208). -/
def execLdMemDEA (s : State) : Out := storeA .de s
/-- `LD D,n8`, 0x16 (R201). -/
def execLdDn8 (n : Byte) (s : State) : Out := loadImm .d n s
/-- `LD A,(DE)`, 0x1A (R206). -/
def execLdAMemDE (s : State) : Out := loadA .de s
/-- `LD E,n8`, 0x1E (R201). -/
def execLdEn8 (n : Byte) (s : State) : Out := loadImm .e n s
/-- `LD (HL+),A`, 0x22 (R217). -/
def execLdMemHLIncA (s : State) : Out := storeA .hlInc s
/-- `LD H,n8`, 0x26 (R201). -/
def execLdHn8 (n : Byte) (s : State) : Out := loadImm .h n s
/-- `LD A,(HL+)`, 0x2A (R215). -/
def execLdAMemHLInc (s : State) : Out := loadA .hlInc s
/-- `LD L,n8`, 0x2E (R201). -/
def execLdLn8 (n : Byte) (s : State) : Out := loadImm .l n s
/-- `LD (HL-),A`, 0x32 (R218). -/
def execLdMemHLDecA (s : State) : Out := storeA .hlDec s
/-- `LD (HL),n8`, 0x36 (R204). -/
def execLdMemHLn8 (n : Byte) (s : State) : Out := storeMemHLImm n s
/-- `LD A,(HL-)`, 0x3A (R216). -/
def execLdAMemHLDec (s : State) : Out := loadA .hlDec s
/-- `LD A,n8`, 0x3E (R201). -/
def execLdAn8 (n : Byte) (s : State) : Out := loadImm .a n s
/-- `LD B,B`, 0x40 (R200). -/
def execLdBB (s : State) : Out := loadReg .b .b s
/-- `LD B,C`, 0x41 (R200). -/
def execLdBC (s : State) : Out := loadReg .b .c s
/-- `LD B,D`, 0x42 (R200). -/
def execLdBD (s : State) : Out := loadReg .b .d s
/-- `LD B,E`, 0x43 (R200). -/
def execLdBE (s : State) : Out := loadReg .b .e s
/-- `LD B,H`, 0x44 (R200). -/
def execLdBH (s : State) : Out := loadReg .b .h s
/-- `LD B,L`, 0x45 (R200). -/
def execLdBL (s : State) : Out := loadReg .b .l s
/-- `LD B,(HL)`, 0x46 (R202). -/
def execLdBMemHL (s : State) : Out := loadMemHL .b s
/-- `LD B,A`, 0x47 (R200). -/
def execLdBA (s : State) : Out := loadReg .b .a s
/-- `LD C,B`, 0x48 (R200). -/
def execLdCB (s : State) : Out := loadReg .c .b s
/-- `LD C,C`, 0x49 (R200). -/
def execLdCC (s : State) : Out := loadReg .c .c s
/-- `LD C,D`, 0x4A (R200). -/
def execLdCD (s : State) : Out := loadReg .c .d s
/-- `LD C,E`, 0x4B (R200). -/
def execLdCE (s : State) : Out := loadReg .c .e s
/-- `LD C,H`, 0x4C (R200). -/
def execLdCH (s : State) : Out := loadReg .c .h s
/-- `LD C,L`, 0x4D (R200). -/
def execLdCL (s : State) : Out := loadReg .c .l s
/-- `LD C,(HL)`, 0x4E (R202). -/
def execLdCMemHL (s : State) : Out := loadMemHL .c s
/-- `LD C,A`, 0x4F (R200). -/
def execLdCA (s : State) : Out := loadReg .c .a s
/-- `LD D,B`, 0x50 (R200). -/
def execLdDB (s : State) : Out := loadReg .d .b s
/-- `LD D,C`, 0x51 (R200). -/
def execLdDC (s : State) : Out := loadReg .d .c s
/-- `LD D,D`, 0x52 (R200). -/
def execLdDD (s : State) : Out := loadReg .d .d s
/-- `LD D,E`, 0x53 (R200). -/
def execLdDE (s : State) : Out := loadReg .d .e s
/-- `LD D,H`, 0x54 (R200). -/
def execLdDH (s : State) : Out := loadReg .d .h s
/-- `LD D,L`, 0x55 (R200). -/
def execLdDL (s : State) : Out := loadReg .d .l s
/-- `LD D,(HL)`, 0x56 (R202). -/
def execLdDMemHL (s : State) : Out := loadMemHL .d s
/-- `LD D,A`, 0x57 (R200). -/
def execLdDA (s : State) : Out := loadReg .d .a s
/-- `LD E,B`, 0x58 (R200). -/
def execLdEB (s : State) : Out := loadReg .e .b s
/-- `LD E,C`, 0x59 (R200). -/
def execLdEC (s : State) : Out := loadReg .e .c s
/-- `LD E,D`, 0x5A (R200). -/
def execLdED (s : State) : Out := loadReg .e .d s
/-- `LD E,E`, 0x5B (R200). -/
def execLdEE (s : State) : Out := loadReg .e .e s
/-- `LD E,H`, 0x5C (R200). -/
def execLdEH (s : State) : Out := loadReg .e .h s
/-- `LD E,L`, 0x5D (R200). -/
def execLdEL (s : State) : Out := loadReg .e .l s
/-- `LD E,(HL)`, 0x5E (R202). -/
def execLdEMemHL (s : State) : Out := loadMemHL .e s
/-- `LD E,A`, 0x5F (R200). -/
def execLdEA (s : State) : Out := loadReg .e .a s
/-- `LD H,B`, 0x60 (R200). -/
def execLdHB (s : State) : Out := loadReg .h .b s
/-- `LD H,C`, 0x61 (R200). -/
def execLdHC (s : State) : Out := loadReg .h .c s
/-- `LD H,D`, 0x62 (R200). -/
def execLdHD (s : State) : Out := loadReg .h .d s
/-- `LD H,E`, 0x63 (R200). -/
def execLdHE (s : State) : Out := loadReg .h .e s
/-- `LD H,H`, 0x64 (R200). -/
def execLdHH (s : State) : Out := loadReg .h .h s
/-- `LD H,L`, 0x65 (R200). -/
def execLdHL (s : State) : Out := loadReg .h .l s
/-- `LD H,(HL)`, 0x66 (R202). -/
def execLdHMemHL (s : State) : Out := loadMemHL .h s
/-- `LD H,A`, 0x67 (R200). -/
def execLdHA (s : State) : Out := loadReg .h .a s
/-- `LD L,B`, 0x68 (R200). -/
def execLdLB (s : State) : Out := loadReg .l .b s
/-- `LD L,C`, 0x69 (R200). -/
def execLdLC (s : State) : Out := loadReg .l .c s
/-- `LD L,D`, 0x6A (R200). -/
def execLdLD (s : State) : Out := loadReg .l .d s
/-- `LD L,E`, 0x6B (R200). -/
def execLdLE (s : State) : Out := loadReg .l .e s
/-- `LD L,H`, 0x6C (R200). -/
def execLdLH (s : State) : Out := loadReg .l .h s
/-- `LD L,L`, 0x6D (R200). -/
def execLdLL (s : State) : Out := loadReg .l .l s
/-- `LD L,(HL)`, 0x6E (R202). -/
def execLdLMemHL (s : State) : Out := loadMemHL .l s
/-- `LD L,A`, 0x6F (R200). -/
def execLdLA (s : State) : Out := loadReg .l .a s
/-- `LD (HL),B`, 0x70 (R203). -/
def execLdMemHLB (s : State) : Out := storeMemHL .b s
/-- `LD (HL),C`, 0x71 (R203). -/
def execLdMemHLC (s : State) : Out := storeMemHL .c s
/-- `LD (HL),D`, 0x72 (R203). -/
def execLdMemHLD (s : State) : Out := storeMemHL .d s
/-- `LD (HL),E`, 0x73 (R203). -/
def execLdMemHLE (s : State) : Out := storeMemHL .e s
/-- `LD (HL),H`, 0x74 (R203). -/
def execLdMemHLH (s : State) : Out := storeMemHL .h s
/-- `LD (HL),L`, 0x75 (R203). -/
def execLdMemHLL (s : State) : Out := storeMemHL .l s
/-- `LD (HL),A`, 0x77 (R203). -/
def execLdMemHLA (s : State) : Out := storeMemHL .a s
/-- `LD A,B`, 0x78 (R200). -/
def execLdAB (s : State) : Out := loadReg .a .b s
/-- `LD A,C`, 0x79 (R200). -/
def execLdAC (s : State) : Out := loadReg .a .c s
/-- `LD A,D`, 0x7A (R200). -/
def execLdAD (s : State) : Out := loadReg .a .d s
/-- `LD A,E`, 0x7B (R200). -/
def execLdAE (s : State) : Out := loadReg .a .e s
/-- `LD A,H`, 0x7C (R200). -/
def execLdAH (s : State) : Out := loadReg .a .h s
/-- `LD A,L`, 0x7D (R200). -/
def execLdAL (s : State) : Out := loadReg .a .l s
/-- `LD A,(HL)`, 0x7E (R202). -/
def execLdAMemHL (s : State) : Out := loadMemHL .a s
/-- `LD A,A`, 0x7F (R200). -/
def execLdAA (s : State) : Out := loadReg .a .a s
/-- `LDH (a8),A`, 0xE0 (R214). -/
def execLdhMema8A (a : Byte) (s : State) : Out := storeATo 2 12 (highPage a) s
/-- `LDH (C),A`, 0xE2 (R212). -/
def execLdhMemCA (s : State) : Out := storeATo 1 8 (highPage s.c) s
/-- `LD (a16),A`, 0xEA (R210). -/
def execLdMema16A (a : Word) (s : State) : Out := storeATo 3 16 a s
/-- `LDH A,(a8)`, 0xF0 (R213). -/
def execLdhAMema8 (a : Byte) (s : State) : Out := loadAFrom 2 12 (highPage a) s
/-- `LDH A,(C)`, 0xF2 (R211). -/
def execLdhAMemC (s : State) : Out := loadAFrom 1 8 (highPage s.c) s
/-- `LD A,(a16)`, 0xFA (R209). -/
def execLdAMema16 (a : Word) (s : State) : Out := loadAFrom 3 16 a s

end Sys2Proof.Machine
end

