-- ==== Sys2Proof/Machine/RotateShiftBit.lean ====
section
/-! DEFINITION. Machine/RotateShiftBit.lean: rotates, shifts, SWAP, BIT, RES and SET (45_rotate_shift_bit.md R340 to R366), and the
0xCB prefix (30_encoding.md R128). -/

namespace Sys2Proof.Machine

/-- RLCA, RRCA, RLA, RRA (R340 to R343): Z is cleared (D7). -/
def rotateA (op : RotOp) (s : State) : Out :=
  let r := rotate8 op s.a s.flags.c
  commit { len := 1, cost := 4, regs := [(.a, r.1)], flagZ := some false, flagN := some false, flagH := some false,
           flagC := some r.2 } s

/-- The rotates, shifts and SWAP of the prefixed space (R345 to R360). -/
def rotateR8 (op : RotOp) (z : R8) (s : State) : Out :=
  let r := rotate8 op (s.r8 z) s.flags.c
  commit (({ len := 2, cost := r8Cost z 8 16, flagZ := some (decide (r.1 = 0#8)), flagN := some false, flagH := some false,
             flagC := some r.2 } : Delta).setR8 s z r.1) s

/-- `BIT b,r8` (R361, R362): nothing is written but Z, N and H. -/
def testR8 (b : BitVec 3) (z : R8) (s : State) : Out :=
  commit { len := 2, cost := r8Cost z 8 12, flagZ := some (!(s.r8 z).getLsbD b.toNat), flagN := some false,
           flagH := some true } s

/-- `RES b,r8` (R363, R364). -/
def resetR8 (b : BitVec 3) (z : R8) (s : State) : Out :=
  commit (({ len := 2, cost := r8Cost z 8 16 } : Delta).setR8 s z (resetBit b (s.r8 z))) s

/-- `SET b,r8` (R365, R366). -/
def setR8Bit (b : BitVec 3) (z : R8) (s : State) : Out :=
  commit (({ len := 2, cost := r8Cost z 8 16 } : Delta).setR8 s z (setBit b (s.r8 z))) s

/-- The extended instruction that the byte after 0xCB selects, by its fields x, y, z (R128, R130, R344). -/
def extended (b1 : Byte) (s : State) : Out :=
  let z := R8.ofCode (zField b1)
  let y := yField b1
  if xField b1 = 0#2 then rotateR8 (RotOp.ofCode y) z s
  else if xField b1 = 1#2 then testR8 y z s
  else if xField b1 = 2#2 then resetR8 y z s
  else setR8Bit y z s

/-! ### The instructions -/

/-- `RLCA`, 0x07 (R340). -/
def execRlca (s : State) : Out := rotateA .rlc s
/-- `RRCA`, 0x0F (R341). -/
def execRrca (s : State) : Out := rotateA .rrc s
/-- `RLA`, 0x17 (R342). -/
def execRla (s : State) : Out := rotateA .rl s
/-- `RRA`, 0x1F (R343). -/
def execRra (s : State) : Out := rotateA .rr s
/-- the prefix byte 0xCB (R128). -/
def execPrefixCB (b1 : Byte) (s : State) : Out := extended b1 s
/-- `RLC B`, 0xCB 00 (R345). -/
def execRlcB (s : State) : Out := rotateR8 .rlc (.reg .b) s
/-- `RLC C`, 0xCB 01 (R345). -/
def execRlcC (s : State) : Out := rotateR8 .rlc (.reg .c) s
/-- `RLC D`, 0xCB 02 (R345). -/
def execRlcD (s : State) : Out := rotateR8 .rlc (.reg .d) s
/-- `RLC E`, 0xCB 03 (R345). -/
def execRlcE (s : State) : Out := rotateR8 .rlc (.reg .e) s
/-- `RLC H`, 0xCB 04 (R345). -/
def execRlcH (s : State) : Out := rotateR8 .rlc (.reg .h) s
/-- `RLC L`, 0xCB 05 (R345). -/
def execRlcL (s : State) : Out := rotateR8 .rlc (.reg .l) s
/-- `RLC (HL)`, 0xCB 06 (R346). -/
def execRlcMemHL (s : State) : Out := rotateR8 .rlc .memHL s
/-- `RLC A`, 0xCB 07 (R345). -/
def execRlcA (s : State) : Out := rotateR8 .rlc (.reg .a) s
/-- `RRC B`, 0xCB 08 (R347). -/
def execRrcB (s : State) : Out := rotateR8 .rrc (.reg .b) s
/-- `RRC C`, 0xCB 09 (R347). -/
def execRrcC (s : State) : Out := rotateR8 .rrc (.reg .c) s
/-- `RRC D`, 0xCB 0A (R347). -/
def execRrcD (s : State) : Out := rotateR8 .rrc (.reg .d) s
/-- `RRC E`, 0xCB 0B (R347). -/
def execRrcE (s : State) : Out := rotateR8 .rrc (.reg .e) s
/-- `RRC H`, 0xCB 0C (R347). -/
def execRrcH (s : State) : Out := rotateR8 .rrc (.reg .h) s
/-- `RRC L`, 0xCB 0D (R347). -/
def execRrcL (s : State) : Out := rotateR8 .rrc (.reg .l) s
/-- `RRC (HL)`, 0xCB 0E (R348). -/
def execRrcMemHL (s : State) : Out := rotateR8 .rrc .memHL s
/-- `RRC A`, 0xCB 0F (R347). -/
def execRrcA (s : State) : Out := rotateR8 .rrc (.reg .a) s
/-- `RL B`, 0xCB 10 (R349). -/
def execRlB (s : State) : Out := rotateR8 .rl (.reg .b) s
/-- `RL C`, 0xCB 11 (R349). -/
def execRlC (s : State) : Out := rotateR8 .rl (.reg .c) s
/-- `RL D`, 0xCB 12 (R349). -/
def execRlD (s : State) : Out := rotateR8 .rl (.reg .d) s
/-- `RL E`, 0xCB 13 (R349). -/
def execRlE (s : State) : Out := rotateR8 .rl (.reg .e) s
/-- `RL H`, 0xCB 14 (R349). -/
def execRlH (s : State) : Out := rotateR8 .rl (.reg .h) s
/-- `RL L`, 0xCB 15 (R349). -/
def execRlL (s : State) : Out := rotateR8 .rl (.reg .l) s
/-- `RL (HL)`, 0xCB 16 (R350). -/
def execRlMemHL (s : State) : Out := rotateR8 .rl .memHL s
/-- `RL A`, 0xCB 17 (R349). -/
def execRlA (s : State) : Out := rotateR8 .rl (.reg .a) s
/-- `RR B`, 0xCB 18 (R351). -/
def execRrB (s : State) : Out := rotateR8 .rr (.reg .b) s
/-- `RR C`, 0xCB 19 (R351). -/
def execRrC (s : State) : Out := rotateR8 .rr (.reg .c) s
/-- `RR D`, 0xCB 1A (R351). -/
def execRrD (s : State) : Out := rotateR8 .rr (.reg .d) s
/-- `RR E`, 0xCB 1B (R351). -/
def execRrE (s : State) : Out := rotateR8 .rr (.reg .e) s
/-- `RR H`, 0xCB 1C (R351). -/
def execRrH (s : State) : Out := rotateR8 .rr (.reg .h) s
/-- `RR L`, 0xCB 1D (R351). -/
def execRrL (s : State) : Out := rotateR8 .rr (.reg .l) s
/-- `RR (HL)`, 0xCB 1E (R352). -/
def execRrMemHL (s : State) : Out := rotateR8 .rr .memHL s
/-- `RR A`, 0xCB 1F (R351). -/
def execRrA (s : State) : Out := rotateR8 .rr (.reg .a) s
/-- `SLA B`, 0xCB 20 (R353). -/
def execSlaB (s : State) : Out := rotateR8 .sla (.reg .b) s
/-- `SLA C`, 0xCB 21 (R353). -/
def execSlaC (s : State) : Out := rotateR8 .sla (.reg .c) s
/-- `SLA D`, 0xCB 22 (R353). -/
def execSlaD (s : State) : Out := rotateR8 .sla (.reg .d) s
/-- `SLA E`, 0xCB 23 (R353). -/
def execSlaE (s : State) : Out := rotateR8 .sla (.reg .e) s
/-- `SLA H`, 0xCB 24 (R353). -/
def execSlaH (s : State) : Out := rotateR8 .sla (.reg .h) s
/-- `SLA L`, 0xCB 25 (R353). -/
def execSlaL (s : State) : Out := rotateR8 .sla (.reg .l) s
/-- `SLA (HL)`, 0xCB 26 (R354). -/
def execSlaMemHL (s : State) : Out := rotateR8 .sla .memHL s
/-- `SLA A`, 0xCB 27 (R353). -/
def execSlaA (s : State) : Out := rotateR8 .sla (.reg .a) s
/-- `SRA B`, 0xCB 28 (R355). -/
def execSraB (s : State) : Out := rotateR8 .sra (.reg .b) s
/-- `SRA C`, 0xCB 29 (R355). -/
def execSraC (s : State) : Out := rotateR8 .sra (.reg .c) s
/-- `SRA D`, 0xCB 2A (R355). -/
def execSraD (s : State) : Out := rotateR8 .sra (.reg .d) s
/-- `SRA E`, 0xCB 2B (R355). -/
def execSraE (s : State) : Out := rotateR8 .sra (.reg .e) s
/-- `SRA H`, 0xCB 2C (R355). -/
def execSraH (s : State) : Out := rotateR8 .sra (.reg .h) s
/-- `SRA L`, 0xCB 2D (R355). -/
def execSraL (s : State) : Out := rotateR8 .sra (.reg .l) s
/-- `SRA (HL)`, 0xCB 2E (R356). -/
def execSraMemHL (s : State) : Out := rotateR8 .sra .memHL s
/-- `SRA A`, 0xCB 2F (R355). -/
def execSraA (s : State) : Out := rotateR8 .sra (.reg .a) s
/-- `SWAP B`, 0xCB 30 (R357). -/
def execSwapB (s : State) : Out := rotateR8 .swap (.reg .b) s
/-- `SWAP C`, 0xCB 31 (R357). -/
def execSwapC (s : State) : Out := rotateR8 .swap (.reg .c) s
/-- `SWAP D`, 0xCB 32 (R357). -/
def execSwapD (s : State) : Out := rotateR8 .swap (.reg .d) s
/-- `SWAP E`, 0xCB 33 (R357). -/
def execSwapE (s : State) : Out := rotateR8 .swap (.reg .e) s
/-- `SWAP H`, 0xCB 34 (R357). -/
def execSwapH (s : State) : Out := rotateR8 .swap (.reg .h) s
/-- `SWAP L`, 0xCB 35 (R357). -/
def execSwapL (s : State) : Out := rotateR8 .swap (.reg .l) s
/-- `SWAP (HL)`, 0xCB 36 (R358). -/
def execSwapMemHL (s : State) : Out := rotateR8 .swap .memHL s
/-- `SWAP A`, 0xCB 37 (R357). -/
def execSwapA (s : State) : Out := rotateR8 .swap (.reg .a) s
/-- `SRL B`, 0xCB 38 (R359). -/
def execSrlB (s : State) : Out := rotateR8 .srl (.reg .b) s
/-- `SRL C`, 0xCB 39 (R359). -/
def execSrlC (s : State) : Out := rotateR8 .srl (.reg .c) s
/-- `SRL D`, 0xCB 3A (R359). -/
def execSrlD (s : State) : Out := rotateR8 .srl (.reg .d) s
/-- `SRL E`, 0xCB 3B (R359). -/
def execSrlE (s : State) : Out := rotateR8 .srl (.reg .e) s
/-- `SRL H`, 0xCB 3C (R359). -/
def execSrlH (s : State) : Out := rotateR8 .srl (.reg .h) s
/-- `SRL L`, 0xCB 3D (R359). -/
def execSrlL (s : State) : Out := rotateR8 .srl (.reg .l) s
/-- `SRL (HL)`, 0xCB 3E (R360). -/
def execSrlMemHL (s : State) : Out := rotateR8 .srl .memHL s
/-- `SRL A`, 0xCB 3F (R359). -/
def execSrlA (s : State) : Out := rotateR8 .srl (.reg .a) s
/-- `BIT 0,B`, 0xCB 40 (R361). -/
def execBit0B (s : State) : Out := testR8 0#3 (.reg .b) s
/-- `BIT 0,C`, 0xCB 41 (R361). -/
def execBit0C (s : State) : Out := testR8 0#3 (.reg .c) s
/-- `BIT 0,D`, 0xCB 42 (R361). -/
def execBit0D (s : State) : Out := testR8 0#3 (.reg .d) s
/-- `BIT 0,E`, 0xCB 43 (R361). -/
def execBit0E (s : State) : Out := testR8 0#3 (.reg .e) s
/-- `BIT 0,H`, 0xCB 44 (R361). -/
def execBit0H (s : State) : Out := testR8 0#3 (.reg .h) s
/-- `BIT 0,L`, 0xCB 45 (R361). -/
def execBit0L (s : State) : Out := testR8 0#3 (.reg .l) s
/-- `BIT 0,(HL)`, 0xCB 46 (R362). -/
def execBit0MemHL (s : State) : Out := testR8 0#3 .memHL s
/-- `BIT 0,A`, 0xCB 47 (R361). -/
def execBit0A (s : State) : Out := testR8 0#3 (.reg .a) s
/-- `BIT 1,B`, 0xCB 48 (R361). -/
def execBit1B (s : State) : Out := testR8 1#3 (.reg .b) s
/-- `BIT 1,C`, 0xCB 49 (R361). -/
def execBit1C (s : State) : Out := testR8 1#3 (.reg .c) s
/-- `BIT 1,D`, 0xCB 4A (R361). -/
def execBit1D (s : State) : Out := testR8 1#3 (.reg .d) s
/-- `BIT 1,E`, 0xCB 4B (R361). -/
def execBit1E (s : State) : Out := testR8 1#3 (.reg .e) s
/-- `BIT 1,H`, 0xCB 4C (R361). -/
def execBit1H (s : State) : Out := testR8 1#3 (.reg .h) s
/-- `BIT 1,L`, 0xCB 4D (R361). -/
def execBit1L (s : State) : Out := testR8 1#3 (.reg .l) s
/-- `BIT 1,(HL)`, 0xCB 4E (R362). -/
def execBit1MemHL (s : State) : Out := testR8 1#3 .memHL s
/-- `BIT 1,A`, 0xCB 4F (R361). -/
def execBit1A (s : State) : Out := testR8 1#3 (.reg .a) s
/-- `BIT 2,B`, 0xCB 50 (R361). -/
def execBit2B (s : State) : Out := testR8 2#3 (.reg .b) s
/-- `BIT 2,C`, 0xCB 51 (R361). -/
def execBit2C (s : State) : Out := testR8 2#3 (.reg .c) s
/-- `BIT 2,D`, 0xCB 52 (R361). -/
def execBit2D (s : State) : Out := testR8 2#3 (.reg .d) s
/-- `BIT 2,E`, 0xCB 53 (R361). -/
def execBit2E (s : State) : Out := testR8 2#3 (.reg .e) s
/-- `BIT 2,H`, 0xCB 54 (R361). -/
def execBit2H (s : State) : Out := testR8 2#3 (.reg .h) s
/-- `BIT 2,L`, 0xCB 55 (R361). -/
def execBit2L (s : State) : Out := testR8 2#3 (.reg .l) s
/-- `BIT 2,(HL)`, 0xCB 56 (R362). -/
def execBit2MemHL (s : State) : Out := testR8 2#3 .memHL s
/-- `BIT 2,A`, 0xCB 57 (R361). -/
def execBit2A (s : State) : Out := testR8 2#3 (.reg .a) s
/-- `BIT 3,B`, 0xCB 58 (R361). -/
def execBit3B (s : State) : Out := testR8 3#3 (.reg .b) s
/-- `BIT 3,C`, 0xCB 59 (R361). -/
def execBit3C (s : State) : Out := testR8 3#3 (.reg .c) s
/-- `BIT 3,D`, 0xCB 5A (R361). -/
def execBit3D (s : State) : Out := testR8 3#3 (.reg .d) s
/-- `BIT 3,E`, 0xCB 5B (R361). -/
def execBit3E (s : State) : Out := testR8 3#3 (.reg .e) s
/-- `BIT 3,H`, 0xCB 5C (R361). -/
def execBit3H (s : State) : Out := testR8 3#3 (.reg .h) s
/-- `BIT 3,L`, 0xCB 5D (R361). -/
def execBit3L (s : State) : Out := testR8 3#3 (.reg .l) s
/-- `BIT 3,(HL)`, 0xCB 5E (R362). -/
def execBit3MemHL (s : State) : Out := testR8 3#3 .memHL s
/-- `BIT 3,A`, 0xCB 5F (R361). -/
def execBit3A (s : State) : Out := testR8 3#3 (.reg .a) s
/-- `BIT 4,B`, 0xCB 60 (R361). -/
def execBit4B (s : State) : Out := testR8 4#3 (.reg .b) s
/-- `BIT 4,C`, 0xCB 61 (R361). -/
def execBit4C (s : State) : Out := testR8 4#3 (.reg .c) s
/-- `BIT 4,D`, 0xCB 62 (R361). -/
def execBit4D (s : State) : Out := testR8 4#3 (.reg .d) s
/-- `BIT 4,E`, 0xCB 63 (R361). -/
def execBit4E (s : State) : Out := testR8 4#3 (.reg .e) s
/-- `BIT 4,H`, 0xCB 64 (R361). -/
def execBit4H (s : State) : Out := testR8 4#3 (.reg .h) s
/-- `BIT 4,L`, 0xCB 65 (R361). -/
def execBit4L (s : State) : Out := testR8 4#3 (.reg .l) s
/-- `BIT 4,(HL)`, 0xCB 66 (R362). -/
def execBit4MemHL (s : State) : Out := testR8 4#3 .memHL s
/-- `BIT 4,A`, 0xCB 67 (R361). -/
def execBit4A (s : State) : Out := testR8 4#3 (.reg .a) s
/-- `BIT 5,B`, 0xCB 68 (R361). -/
def execBit5B (s : State) : Out := testR8 5#3 (.reg .b) s
/-- `BIT 5,C`, 0xCB 69 (R361). -/
def execBit5C (s : State) : Out := testR8 5#3 (.reg .c) s
/-- `BIT 5,D`, 0xCB 6A (R361). -/
def execBit5D (s : State) : Out := testR8 5#3 (.reg .d) s
/-- `BIT 5,E`, 0xCB 6B (R361). -/
def execBit5E (s : State) : Out := testR8 5#3 (.reg .e) s
/-- `BIT 5,H`, 0xCB 6C (R361). -/
def execBit5H (s : State) : Out := testR8 5#3 (.reg .h) s
/-- `BIT 5,L`, 0xCB 6D (R361). -/
def execBit5L (s : State) : Out := testR8 5#3 (.reg .l) s
/-- `BIT 5,(HL)`, 0xCB 6E (R362). -/
def execBit5MemHL (s : State) : Out := testR8 5#3 .memHL s
/-- `BIT 5,A`, 0xCB 6F (R361). -/
def execBit5A (s : State) : Out := testR8 5#3 (.reg .a) s
/-- `BIT 6,B`, 0xCB 70 (R361). -/
def execBit6B (s : State) : Out := testR8 6#3 (.reg .b) s
/-- `BIT 6,C`, 0xCB 71 (R361). -/
def execBit6C (s : State) : Out := testR8 6#3 (.reg .c) s
/-- `BIT 6,D`, 0xCB 72 (R361). -/
def execBit6D (s : State) : Out := testR8 6#3 (.reg .d) s
/-- `BIT 6,E`, 0xCB 73 (R361). -/
def execBit6E (s : State) : Out := testR8 6#3 (.reg .e) s
/-- `BIT 6,H`, 0xCB 74 (R361). -/
def execBit6H (s : State) : Out := testR8 6#3 (.reg .h) s
/-- `BIT 6,L`, 0xCB 75 (R361). -/
def execBit6L (s : State) : Out := testR8 6#3 (.reg .l) s
/-- `BIT 6,(HL)`, 0xCB 76 (R362). -/
def execBit6MemHL (s : State) : Out := testR8 6#3 .memHL s
/-- `BIT 6,A`, 0xCB 77 (R361). -/
def execBit6A (s : State) : Out := testR8 6#3 (.reg .a) s
/-- `BIT 7,B`, 0xCB 78 (R361). -/
def execBit7B (s : State) : Out := testR8 7#3 (.reg .b) s
/-- `BIT 7,C`, 0xCB 79 (R361). -/
def execBit7C (s : State) : Out := testR8 7#3 (.reg .c) s
/-- `BIT 7,D`, 0xCB 7A (R361). -/
def execBit7D (s : State) : Out := testR8 7#3 (.reg .d) s
/-- `BIT 7,E`, 0xCB 7B (R361). -/
def execBit7E (s : State) : Out := testR8 7#3 (.reg .e) s
/-- `BIT 7,H`, 0xCB 7C (R361). -/
def execBit7H (s : State) : Out := testR8 7#3 (.reg .h) s
/-- `BIT 7,L`, 0xCB 7D (R361). -/
def execBit7L (s : State) : Out := testR8 7#3 (.reg .l) s
/-- `BIT 7,(HL)`, 0xCB 7E (R362). -/
def execBit7MemHL (s : State) : Out := testR8 7#3 .memHL s
/-- `BIT 7,A`, 0xCB 7F (R361). -/
def execBit7A (s : State) : Out := testR8 7#3 (.reg .a) s
/-- `RES 0,B`, 0xCB 80 (R363). -/
def execRes0B (s : State) : Out := resetR8 0#3 (.reg .b) s
/-- `RES 0,C`, 0xCB 81 (R363). -/
def execRes0C (s : State) : Out := resetR8 0#3 (.reg .c) s
/-- `RES 0,D`, 0xCB 82 (R363). -/
def execRes0D (s : State) : Out := resetR8 0#3 (.reg .d) s
/-- `RES 0,E`, 0xCB 83 (R363). -/
def execRes0E (s : State) : Out := resetR8 0#3 (.reg .e) s
/-- `RES 0,H`, 0xCB 84 (R363). -/
def execRes0H (s : State) : Out := resetR8 0#3 (.reg .h) s
/-- `RES 0,L`, 0xCB 85 (R363). -/
def execRes0L (s : State) : Out := resetR8 0#3 (.reg .l) s
/-- `RES 0,(HL)`, 0xCB 86 (R364). -/
def execRes0MemHL (s : State) : Out := resetR8 0#3 .memHL s
/-- `RES 0,A`, 0xCB 87 (R363). -/
def execRes0A (s : State) : Out := resetR8 0#3 (.reg .a) s
/-- `RES 1,B`, 0xCB 88 (R363). -/
def execRes1B (s : State) : Out := resetR8 1#3 (.reg .b) s
/-- `RES 1,C`, 0xCB 89 (R363). -/
def execRes1C (s : State) : Out := resetR8 1#3 (.reg .c) s
/-- `RES 1,D`, 0xCB 8A (R363). -/
def execRes1D (s : State) : Out := resetR8 1#3 (.reg .d) s
/-- `RES 1,E`, 0xCB 8B (R363). -/
def execRes1E (s : State) : Out := resetR8 1#3 (.reg .e) s
/-- `RES 1,H`, 0xCB 8C (R363). -/
def execRes1H (s : State) : Out := resetR8 1#3 (.reg .h) s
/-- `RES 1,L`, 0xCB 8D (R363). -/
def execRes1L (s : State) : Out := resetR8 1#3 (.reg .l) s
/-- `RES 1,(HL)`, 0xCB 8E (R364). -/
def execRes1MemHL (s : State) : Out := resetR8 1#3 .memHL s
/-- `RES 1,A`, 0xCB 8F (R363). -/
def execRes1A (s : State) : Out := resetR8 1#3 (.reg .a) s
/-- `RES 2,B`, 0xCB 90 (R363). -/
def execRes2B (s : State) : Out := resetR8 2#3 (.reg .b) s
/-- `RES 2,C`, 0xCB 91 (R363). -/
def execRes2C (s : State) : Out := resetR8 2#3 (.reg .c) s
/-- `RES 2,D`, 0xCB 92 (R363). -/
def execRes2D (s : State) : Out := resetR8 2#3 (.reg .d) s
/-- `RES 2,E`, 0xCB 93 (R363). -/
def execRes2E (s : State) : Out := resetR8 2#3 (.reg .e) s
/-- `RES 2,H`, 0xCB 94 (R363). -/
def execRes2H (s : State) : Out := resetR8 2#3 (.reg .h) s
/-- `RES 2,L`, 0xCB 95 (R363). -/
def execRes2L (s : State) : Out := resetR8 2#3 (.reg .l) s
/-- `RES 2,(HL)`, 0xCB 96 (R364). -/
def execRes2MemHL (s : State) : Out := resetR8 2#3 .memHL s
/-- `RES 2,A`, 0xCB 97 (R363). -/
def execRes2A (s : State) : Out := resetR8 2#3 (.reg .a) s
/-- `RES 3,B`, 0xCB 98 (R363). -/
def execRes3B (s : State) : Out := resetR8 3#3 (.reg .b) s
/-- `RES 3,C`, 0xCB 99 (R363). -/
def execRes3C (s : State) : Out := resetR8 3#3 (.reg .c) s
/-- `RES 3,D`, 0xCB 9A (R363). -/
def execRes3D (s : State) : Out := resetR8 3#3 (.reg .d) s
/-- `RES 3,E`, 0xCB 9B (R363). -/
def execRes3E (s : State) : Out := resetR8 3#3 (.reg .e) s
/-- `RES 3,H`, 0xCB 9C (R363). -/
def execRes3H (s : State) : Out := resetR8 3#3 (.reg .h) s
/-- `RES 3,L`, 0xCB 9D (R363). -/
def execRes3L (s : State) : Out := resetR8 3#3 (.reg .l) s
/-- `RES 3,(HL)`, 0xCB 9E (R364). -/
def execRes3MemHL (s : State) : Out := resetR8 3#3 .memHL s
/-- `RES 3,A`, 0xCB 9F (R363). -/
def execRes3A (s : State) : Out := resetR8 3#3 (.reg .a) s
/-- `RES 4,B`, 0xCB A0 (R363). -/
def execRes4B (s : State) : Out := resetR8 4#3 (.reg .b) s
/-- `RES 4,C`, 0xCB A1 (R363). -/
def execRes4C (s : State) : Out := resetR8 4#3 (.reg .c) s
/-- `RES 4,D`, 0xCB A2 (R363). -/
def execRes4D (s : State) : Out := resetR8 4#3 (.reg .d) s
/-- `RES 4,E`, 0xCB A3 (R363). -/
def execRes4E (s : State) : Out := resetR8 4#3 (.reg .e) s
/-- `RES 4,H`, 0xCB A4 (R363). -/
def execRes4H (s : State) : Out := resetR8 4#3 (.reg .h) s
/-- `RES 4,L`, 0xCB A5 (R363). -/
def execRes4L (s : State) : Out := resetR8 4#3 (.reg .l) s
/-- `RES 4,(HL)`, 0xCB A6 (R364). -/
def execRes4MemHL (s : State) : Out := resetR8 4#3 .memHL s
/-- `RES 4,A`, 0xCB A7 (R363). -/
def execRes4A (s : State) : Out := resetR8 4#3 (.reg .a) s
/-- `RES 5,B`, 0xCB A8 (R363). -/
def execRes5B (s : State) : Out := resetR8 5#3 (.reg .b) s
/-- `RES 5,C`, 0xCB A9 (R363). -/
def execRes5C (s : State) : Out := resetR8 5#3 (.reg .c) s
/-- `RES 5,D`, 0xCB AA (R363). -/
def execRes5D (s : State) : Out := resetR8 5#3 (.reg .d) s
/-- `RES 5,E`, 0xCB AB (R363). -/
def execRes5E (s : State) : Out := resetR8 5#3 (.reg .e) s
/-- `RES 5,H`, 0xCB AC (R363). -/
def execRes5H (s : State) : Out := resetR8 5#3 (.reg .h) s
/-- `RES 5,L`, 0xCB AD (R363). -/
def execRes5L (s : State) : Out := resetR8 5#3 (.reg .l) s
/-- `RES 5,(HL)`, 0xCB AE (R364). -/
def execRes5MemHL (s : State) : Out := resetR8 5#3 .memHL s
/-- `RES 5,A`, 0xCB AF (R363). -/
def execRes5A (s : State) : Out := resetR8 5#3 (.reg .a) s
/-- `RES 6,B`, 0xCB B0 (R363). -/
def execRes6B (s : State) : Out := resetR8 6#3 (.reg .b) s
/-- `RES 6,C`, 0xCB B1 (R363). -/
def execRes6C (s : State) : Out := resetR8 6#3 (.reg .c) s
/-- `RES 6,D`, 0xCB B2 (R363). -/
def execRes6D (s : State) : Out := resetR8 6#3 (.reg .d) s
/-- `RES 6,E`, 0xCB B3 (R363). -/
def execRes6E (s : State) : Out := resetR8 6#3 (.reg .e) s
/-- `RES 6,H`, 0xCB B4 (R363). -/
def execRes6H (s : State) : Out := resetR8 6#3 (.reg .h) s
/-- `RES 6,L`, 0xCB B5 (R363). -/
def execRes6L (s : State) : Out := resetR8 6#3 (.reg .l) s
/-- `RES 6,(HL)`, 0xCB B6 (R364). -/
def execRes6MemHL (s : State) : Out := resetR8 6#3 .memHL s
/-- `RES 6,A`, 0xCB B7 (R363). -/
def execRes6A (s : State) : Out := resetR8 6#3 (.reg .a) s
/-- `RES 7,B`, 0xCB B8 (R363). -/
def execRes7B (s : State) : Out := resetR8 7#3 (.reg .b) s
/-- `RES 7,C`, 0xCB B9 (R363). -/
def execRes7C (s : State) : Out := resetR8 7#3 (.reg .c) s
/-- `RES 7,D`, 0xCB BA (R363). -/
def execRes7D (s : State) : Out := resetR8 7#3 (.reg .d) s
/-- `RES 7,E`, 0xCB BB (R363). -/
def execRes7E (s : State) : Out := resetR8 7#3 (.reg .e) s
/-- `RES 7,H`, 0xCB BC (R363). -/
def execRes7H (s : State) : Out := resetR8 7#3 (.reg .h) s
/-- `RES 7,L`, 0xCB BD (R363). -/
def execRes7L (s : State) : Out := resetR8 7#3 (.reg .l) s
/-- `RES 7,(HL)`, 0xCB BE (R364). -/
def execRes7MemHL (s : State) : Out := resetR8 7#3 .memHL s
/-- `RES 7,A`, 0xCB BF (R363). -/
def execRes7A (s : State) : Out := resetR8 7#3 (.reg .a) s
/-- `SET 0,B`, 0xCB C0 (R365). -/
def execSet0B (s : State) : Out := setR8Bit 0#3 (.reg .b) s
/-- `SET 0,C`, 0xCB C1 (R365). -/
def execSet0C (s : State) : Out := setR8Bit 0#3 (.reg .c) s
/-- `SET 0,D`, 0xCB C2 (R365). -/
def execSet0D (s : State) : Out := setR8Bit 0#3 (.reg .d) s
/-- `SET 0,E`, 0xCB C3 (R365). -/
def execSet0E (s : State) : Out := setR8Bit 0#3 (.reg .e) s
/-- `SET 0,H`, 0xCB C4 (R365). -/
def execSet0H (s : State) : Out := setR8Bit 0#3 (.reg .h) s
/-- `SET 0,L`, 0xCB C5 (R365). -/
def execSet0L (s : State) : Out := setR8Bit 0#3 (.reg .l) s
/-- `SET 0,(HL)`, 0xCB C6 (R366). -/
def execSet0MemHL (s : State) : Out := setR8Bit 0#3 .memHL s
/-- `SET 0,A`, 0xCB C7 (R365). -/
def execSet0A (s : State) : Out := setR8Bit 0#3 (.reg .a) s
/-- `SET 1,B`, 0xCB C8 (R365). -/
def execSet1B (s : State) : Out := setR8Bit 1#3 (.reg .b) s
/-- `SET 1,C`, 0xCB C9 (R365). -/
def execSet1C (s : State) : Out := setR8Bit 1#3 (.reg .c) s
/-- `SET 1,D`, 0xCB CA (R365). -/
def execSet1D (s : State) : Out := setR8Bit 1#3 (.reg .d) s
/-- `SET 1,E`, 0xCB CB (R365). -/
def execSet1E (s : State) : Out := setR8Bit 1#3 (.reg .e) s
/-- `SET 1,H`, 0xCB CC (R365). -/
def execSet1H (s : State) : Out := setR8Bit 1#3 (.reg .h) s
/-- `SET 1,L`, 0xCB CD (R365). -/
def execSet1L (s : State) : Out := setR8Bit 1#3 (.reg .l) s
/-- `SET 1,(HL)`, 0xCB CE (R366). -/
def execSet1MemHL (s : State) : Out := setR8Bit 1#3 .memHL s
/-- `SET 1,A`, 0xCB CF (R365). -/
def execSet1A (s : State) : Out := setR8Bit 1#3 (.reg .a) s
/-- `SET 2,B`, 0xCB D0 (R365). -/
def execSet2B (s : State) : Out := setR8Bit 2#3 (.reg .b) s
/-- `SET 2,C`, 0xCB D1 (R365). -/
def execSet2C (s : State) : Out := setR8Bit 2#3 (.reg .c) s
/-- `SET 2,D`, 0xCB D2 (R365). -/
def execSet2D (s : State) : Out := setR8Bit 2#3 (.reg .d) s
/-- `SET 2,E`, 0xCB D3 (R365). -/
def execSet2E (s : State) : Out := setR8Bit 2#3 (.reg .e) s
/-- `SET 2,H`, 0xCB D4 (R365). -/
def execSet2H (s : State) : Out := setR8Bit 2#3 (.reg .h) s
/-- `SET 2,L`, 0xCB D5 (R365). -/
def execSet2L (s : State) : Out := setR8Bit 2#3 (.reg .l) s
/-- `SET 2,(HL)`, 0xCB D6 (R366). -/
def execSet2MemHL (s : State) : Out := setR8Bit 2#3 .memHL s
/-- `SET 2,A`, 0xCB D7 (R365). -/
def execSet2A (s : State) : Out := setR8Bit 2#3 (.reg .a) s
/-- `SET 3,B`, 0xCB D8 (R365). -/
def execSet3B (s : State) : Out := setR8Bit 3#3 (.reg .b) s
/-- `SET 3,C`, 0xCB D9 (R365). -/
def execSet3C (s : State) : Out := setR8Bit 3#3 (.reg .c) s
/-- `SET 3,D`, 0xCB DA (R365). -/
def execSet3D (s : State) : Out := setR8Bit 3#3 (.reg .d) s
/-- `SET 3,E`, 0xCB DB (R365). -/
def execSet3E (s : State) : Out := setR8Bit 3#3 (.reg .e) s
/-- `SET 3,H`, 0xCB DC (R365). -/
def execSet3H (s : State) : Out := setR8Bit 3#3 (.reg .h) s
/-- `SET 3,L`, 0xCB DD (R365). -/
def execSet3L (s : State) : Out := setR8Bit 3#3 (.reg .l) s
/-- `SET 3,(HL)`, 0xCB DE (R366). -/
def execSet3MemHL (s : State) : Out := setR8Bit 3#3 .memHL s
/-- `SET 3,A`, 0xCB DF (R365). -/
def execSet3A (s : State) : Out := setR8Bit 3#3 (.reg .a) s
/-- `SET 4,B`, 0xCB E0 (R365). -/
def execSet4B (s : State) : Out := setR8Bit 4#3 (.reg .b) s
/-- `SET 4,C`, 0xCB E1 (R365). -/
def execSet4C (s : State) : Out := setR8Bit 4#3 (.reg .c) s
/-- `SET 4,D`, 0xCB E2 (R365). -/
def execSet4D (s : State) : Out := setR8Bit 4#3 (.reg .d) s
/-- `SET 4,E`, 0xCB E3 (R365). -/
def execSet4E (s : State) : Out := setR8Bit 4#3 (.reg .e) s
/-- `SET 4,H`, 0xCB E4 (R365). -/
def execSet4H (s : State) : Out := setR8Bit 4#3 (.reg .h) s
/-- `SET 4,L`, 0xCB E5 (R365). -/
def execSet4L (s : State) : Out := setR8Bit 4#3 (.reg .l) s
/-- `SET 4,(HL)`, 0xCB E6 (R366). -/
def execSet4MemHL (s : State) : Out := setR8Bit 4#3 .memHL s
/-- `SET 4,A`, 0xCB E7 (R365). -/
def execSet4A (s : State) : Out := setR8Bit 4#3 (.reg .a) s
/-- `SET 5,B`, 0xCB E8 (R365). -/
def execSet5B (s : State) : Out := setR8Bit 5#3 (.reg .b) s
/-- `SET 5,C`, 0xCB E9 (R365). -/
def execSet5C (s : State) : Out := setR8Bit 5#3 (.reg .c) s
/-- `SET 5,D`, 0xCB EA (R365). -/
def execSet5D (s : State) : Out := setR8Bit 5#3 (.reg .d) s
/-- `SET 5,E`, 0xCB EB (R365). -/
def execSet5E (s : State) : Out := setR8Bit 5#3 (.reg .e) s
/-- `SET 5,H`, 0xCB EC (R365). -/
def execSet5H (s : State) : Out := setR8Bit 5#3 (.reg .h) s
/-- `SET 5,L`, 0xCB ED (R365). -/
def execSet5L (s : State) : Out := setR8Bit 5#3 (.reg .l) s
/-- `SET 5,(HL)`, 0xCB EE (R366). -/
def execSet5MemHL (s : State) : Out := setR8Bit 5#3 .memHL s
/-- `SET 5,A`, 0xCB EF (R365). -/
def execSet5A (s : State) : Out := setR8Bit 5#3 (.reg .a) s
/-- `SET 6,B`, 0xCB F0 (R365). -/
def execSet6B (s : State) : Out := setR8Bit 6#3 (.reg .b) s
/-- `SET 6,C`, 0xCB F1 (R365). -/
def execSet6C (s : State) : Out := setR8Bit 6#3 (.reg .c) s
/-- `SET 6,D`, 0xCB F2 (R365). -/
def execSet6D (s : State) : Out := setR8Bit 6#3 (.reg .d) s
/-- `SET 6,E`, 0xCB F3 (R365). -/
def execSet6E (s : State) : Out := setR8Bit 6#3 (.reg .e) s
/-- `SET 6,H`, 0xCB F4 (R365). -/
def execSet6H (s : State) : Out := setR8Bit 6#3 (.reg .h) s
/-- `SET 6,L`, 0xCB F5 (R365). -/
def execSet6L (s : State) : Out := setR8Bit 6#3 (.reg .l) s
/-- `SET 6,(HL)`, 0xCB F6 (R366). -/
def execSet6MemHL (s : State) : Out := setR8Bit 6#3 .memHL s
/-- `SET 6,A`, 0xCB F7 (R365). -/
def execSet6A (s : State) : Out := setR8Bit 6#3 (.reg .a) s
/-- `SET 7,B`, 0xCB F8 (R365). -/
def execSet7B (s : State) : Out := setR8Bit 7#3 (.reg .b) s
/-- `SET 7,C`, 0xCB F9 (R365). -/
def execSet7C (s : State) : Out := setR8Bit 7#3 (.reg .c) s
/-- `SET 7,D`, 0xCB FA (R365). -/
def execSet7D (s : State) : Out := setR8Bit 7#3 (.reg .d) s
/-- `SET 7,E`, 0xCB FB (R365). -/
def execSet7E (s : State) : Out := setR8Bit 7#3 (.reg .e) s
/-- `SET 7,H`, 0xCB FC (R365). -/
def execSet7H (s : State) : Out := setR8Bit 7#3 (.reg .h) s
/-- `SET 7,L`, 0xCB FD (R365). -/
def execSet7L (s : State) : Out := setR8Bit 7#3 (.reg .l) s
/-- `SET 7,(HL)`, 0xCB FE (R366). -/
def execSet7MemHL (s : State) : Out := setR8Bit 7#3 .memHL s
/-- `SET 7,A`, 0xCB FF (R365). -/
def execSet7A (s : State) : Out := setR8Bit 7#3 (.reg .a) s

end Sys2Proof.Machine
end

