-- ==== Sys2Proof/Machine/System.lean ====
section
/-! DEFINITION. Machine/System.lean: NOP, HALT, STOP, DI, EI and the undefined opcodes (47_system.md R410 to R415). -/

namespace Sys2Proof.Machine

/-- HALT (R411): halted, or the halt-bug latch when interrupts are disabled after this step's automatic transition and one is
pending. -/
def haltCore (s : State) : Out :=
  let bug := decide (autoIme s.ime ≠ .set) && decide (s.pending ≠ 0#8)
  commit { len := 1, cost := 4, halt := !bug, haltbug := bug } s

/-- STOP (R412): its second byte is ignored. -/
def stopCore (s : State) : Out :=
  commit { len := 2, cost := 4, stop := true } s

/-- DI (R413) -/
def disableInterrupts (s : State) : Out :=
  commit { len := 1, cost := 4, ime := some .unset } s

/-- EI (R414): the explicit transition only from Unset (D10). -/
def enableInterrupts (s : State) : Out :=
  commit { len := 1, cost := 4, ime := if s.ime = .unset then some .scheduled else none } s

/-- An undefined opcode (R415): zero length, zero cost; the policy decides whether it locks the core. -/
def undefinedOpcode (s : State) : Out :=
  commit { len := 0, cost := 0, lock := decide (s.cfg.undefPolicy = .lock) } s

/-! ### The instructions -/

/-- `NOP`, 0x00 (R410). -/
def execNop (s : State) : Out := commit { len := 1, cost := 4 } s
/-- `STOP`, 0x10 (R412). -/
def execStop (_ignored : Byte) (s : State) : Out := stopCore s
/-- `HALT`, 0x76 (R411). -/
def execHalt (s : State) : Out := haltCore s
/-- undefined opcode 0xD3 (R415). -/
def execUndefD3 (s : State) : Out := undefinedOpcode s
/-- undefined opcode 0xDB (R415). -/
def execUndefDB (s : State) : Out := undefinedOpcode s
/-- undefined opcode 0xDD (R415). -/
def execUndefDD (s : State) : Out := undefinedOpcode s
/-- undefined opcode 0xE3 (R415). -/
def execUndefE3 (s : State) : Out := undefinedOpcode s
/-- undefined opcode 0xE4 (R415). -/
def execUndefE4 (s : State) : Out := undefinedOpcode s
/-- undefined opcode 0xEB (R415). -/
def execUndefEB (s : State) : Out := undefinedOpcode s
/-- undefined opcode 0xEC (R415). -/
def execUndefEC (s : State) : Out := undefinedOpcode s
/-- undefined opcode 0xED (R415). -/
def execUndefED (s : State) : Out := undefinedOpcode s
/-- `DI`, 0xF3 (R413). -/
def execDi (s : State) : Out := disableInterrupts s
/-- undefined opcode 0xF4 (R415). -/
def execUndefF4 (s : State) : Out := undefinedOpcode s
/-- `EI`, 0xFB (R414). -/
def execEi (s : State) : Out := enableInterrupts s
/-- undefined opcode 0xFC (R415). -/
def execUndefFC (s : State) : Out := undefinedOpcode s
/-- undefined opcode 0xFD (R415). -/
def execUndefFD (s : State) : Out := undefinedOpcode s

end Sys2Proof.Machine
end

