-- ==== Sys2Proof/Machine/Driver.lean ====
section
/-! DEFINITION. Machine/Driver.lean: the parts of one step (30_encoding.md R135, R136; 60_exceptions.md R436, R441), which
Machine/Step.lean calls. -/

namespace Sys2Proof.Machine

/-- The extra cost of the first instruction step, paid when it starts at `RESET_PC` (R491). -/
def firstStepCharge (s : State) : Nat := if s.firstStep ∧ s.pc = s.cfg.resetPc then 4 else 0

/-- What an instruction step from `s` adds once its delta gave `t` (R136): the first-step cost; `first_step` is cleared whatever PC. -/
def endInstructionStep (s t : State) : State := { t with cost := t.cost + firstStepCharge s, firstStep := false }

/-- The answer with its next state changed by `g`. -/
def mapNext (g : State → State) : Out → Out
  | .next t => .next (g t)
  | .fault r => .fault r
  | .refused r => .refused r

/-- An instruction step with opcode byte `b0` (R136, R138): decode, apply the delta, then the first-step rule. -/
def instructionStepOn (b0 : Byte) (s : State) : Out :=
  mapNext (endInstructionStep s) (exec (decodeBytes b0 s.fetchB1 s.fetchB2) s)

/-- `instruction_step()` of R136: the opcode byte is the byte at PC. -/
def instructionStep (s : State) : Out := instructionStepOn s.fetchOpcode s

/-- The halt wake's T-states added to the cost of the step that wakes (R441). -/
def addWake (wake : Nat) (t : State) : State := { t with cost := t.cost + wake }

/-- Whether a step that is not locked, stopped or idle dispatches (R436). -/
def dispatches (s : State) : Bool := decide (s.ime = .set) && decide (s.pending ≠ 0#8)

/-- A step of a core that is not locked, stopped or halted: a dispatch, or an instruction step (R135). -/
def activeStep (wake : Nat) (s : State) : Out :=
  if dispatches s then .next (addWake wake (takeInterrupt s)) else mapNext (addWake wake) (instructionStep s)

/-- A locked or stopped core has no step: nothing changes and the duration is 0 (R446, R493, log 6). -/
def noStep (s : State) : State := { s with cost := 0 }

/-- A halted idle step: 4 T-states, nothing else changes (R441). -/
def idleStep (s : State) : State := { s with cost := 4 }

/-- A halted core wakes (R441). -/
def wakeUp (s : State) : State := { s with halted := false }

/-- `step()` of R135. -/
def driverStep (s : State) : Out :=
  if s.locked then .next (noStep s)
  else if s.stopped then .next (noStep s)
  else if s.halted then
    if s.pending = 0#8 then .next (idleStep s) else activeStep 4 (wakeUp s)
  else activeStep 0 s

end Sys2Proof.Machine
end

