-- ==== Sys2Proof/Machine/Step.lean ====
section
/-! DEFINITION. Machine/Step.lean: one step, and the placing of a word where the step fetches. -/

namespace Sys2Proof.Machine

/-- One call of `step()` (30_encoding.md R135). -/
def step (s : State) : Host.Outcome State Fault Refusal := driverStep s

/-- `s` with the table word `w` of `nbits` bits stored at PC, the bytes after it up to the longest instruction 0, so that the next step
fetches and runs it (log 10). -/
def State.withFetchWord (s : State) (nbits w : Nat) : State :=
  (s.withBytes s.pc (tableBytes nbits w)).readyToFetch

end Sys2Proof.Machine
end

