-- ==== Sys2Proof/Machine/HostInterface.lean ====
section
/-! DEFINITION. Machine/HostInterface.lean: what the outside world can do to the machine, each between two steps (70_reset_and_hazards.md
R496): reset, `load_bulk`, memory edits, STOP_WAKE, `status()`, the isolated-instruction entry points, and the duration of a step. -/

namespace Sys2Proof.Machine

/-- Reset (R488): sets all of the state of R487 at once, under the machine's own parameters. -/
def hostReset (s : State) : State := State.resetWith s.cfg

/-- A host edit of memory between steps (20_memory.md R98), in list order. -/
def hostEdit (edits : List (Word × Byte)) (s : State) : State := { s with mem := s.mem.writeAll edits }

/-- A host edit of PC between steps: "a host edit of memory or PC" (47_system.md R415), "if the host moved PC" (R491). -/
def hostMovePc (target : Word) (s : State) : State := { s with pc := target }

/-- `load_bulk(range, bytes)` (R97), `range` being `len` addresses from `start`; a range that extends past 0xFFFF is refused (R99). -/
def loadBulk (start len : Nat) (bytes : List Byte) (s : State) : Out :=
  if start + len ≤ 65536 then .next (s.withBytes (BitVec.ofNat 16 start) (bytes.take len))
  else .refused .rangePastAddressSpace

/-- The host event STOP_WAKE (60_exceptions.md R446): clears `stopped`, and nothing else. -/
def stopWake (s : State) : State := { s with stopped := false }

/-- What `status()` returns (10_state.md R50). -/
structure Status where
  pc : Word
  sp : Word
  a : Byte
  f : Byte
  b : Byte
  c : Byte
  d : Byte
  e : Byte
  h : Byte
  l : Byte
  flags : FlagSet
  ime : IME
  halted : Bool
  stopped : Bool
deriving DecidableEq, Repr

/-- `status()` (R50): read-only. -/
def status (s : State) : Status :=
  { pc := s.pc, sp := s.sp, a := s.a, f := s.readF, b := s.b, c := s.c, d := s.d, e := s.e, h := s.h, l := s.l
    flags := s.flags, ime := s.ime, halted := s.halted, stopped := s.stopped }

/-- `execute(opcode)` (30_encoding.md R138): an instruction step with `b0` taken as `opcode`; no halted, stopped or interrupt check. -/
def execute (opcode : Byte) (s : State) : Out := instructionStepOn opcode s

/-- `execute_with_args(opcode, operand_bytes)` (R138): the operand bytes are written after PC as a host edit, then `execute`. -/
def executeWithArgs (opcode : Byte) (operands : List Byte) (s : State) : Out :=
  execute opcode (s.withBytes (s.pc + 1) operands)

/-- `duration = (cost / 4) / CLOCK_RATE` seconds (R493), exactly (log 17). -/
def duration (clockRate cost : Nat) : Rat := ((cost : Rat) / 4) / (clockRate : Rat)

/-- The elapsed time returned by the step that produced `s` (R493). -/
def State.returnedDuration (s : State) : Rat := duration s.cfg.clockRate s.cost

/-- The T-states of `k` steps from `s`, summed outside the state (10_state.md R54); the sum ends where a step does not answer next. -/
def elapsedTStates : Nat → State → Nat
  | 0, _ => 0
  | k + 1, s =>
    match driverStep s with
    | .next t => t.cost + elapsedTStates k t
    | .fault _ => 0
    | .refused _ => 0

end Sys2Proof.Machine
end

