-- ==== Sys2Proof/Safety.lean ====
section
/-! DEFINITION. Safety.lean: the invariant of the core, and what it is for a run to be stuck (93_implementation_defined.md U14 to U16). -/

namespace Sys2Proof.Machine

/-- What every step keeps: the claims of the spec about combinations of the state's fields. -/
structure State.Inv (s : State) : Prop where
  /-- The memory has its canonical form. -/
  memWf : s.mem.wf = true
  /-- F's bits 3..0 are hardwired to 0 (R34). -/
  fLow : s.f &&& 0x0F#8 = 0#8
  /-- "HALT sets the latch only when IME ≠ Set after its own step, and nothing changes IME before the next step" (R436). -/
  haltbugIme : s.haltbug = true → s.ime = .unset
  /-- IME is never Scheduled while the core waits (R41). -/
  waitIme : (s.halted || s.stopped || s.locked) = true → s.ime ≠ .scheduled
  /-- The power and wait states of R452 exclude one another. -/
  haltedOrStopped : (s.halted && s.stopped) = false
  haltedOrLocked : (s.halted && s.locked) = false
  stoppedOrLocked : (s.stopped && s.locked) = false
  /-- A waiting core holds no halt-bug latch: HALT sets one or the other (R411). -/
  waitLatch : (s.halted || s.stopped || s.locked) = true → s.haltbug = false
  /-- Under Noop0, `locked` is always false (R51). -/
  lockedPolicy : s.locked = true → s.cfg.undefPolicy = .lock
  /-- A returned cost is a multiple of 4 (R494). -/
  costUnit : s.cost % 4 = 0

/-- The core is stuck: its step changes nothing but the returned duration (U14, U15, U16). -/
def State.Stuck (s : State) : Prop := ∃ k, step s = .next { s with cost := k }

end Sys2Proof.Machine
end

