-- ==== Sys2Proof/Certificates/Slice0/Obligations.lean ====
section
/-! DEFINITION. Certificates/Slice0/Obligations.lean: the statements about the model, for the provers. The words they are stated in
come first: they are written from the spec's rules on their own, not over the model's operand and flag functions, so that a statement
compares two readings. -/

namespace Sys2Proof.Claims

open Sys2Proof.Machine

/-! ### What an instruction leaves unchanged, and how it ends -/

/-- The four flags (R35). -/
inductive Flag where
  | z | n | h | c
deriving DecidableEq, Repr

/-- A flag as the bit of F that R34 gives it. -/
def flag (s : State) : Flag → Bool
  | .z => s.f.getLsbD 7
  | .n => s.f.getLsbD 6
  | .h => s.f.getLsbD 5
  | .c => s.f.getLsbD 4

/-- THE FRAME from `s` to `t`: every register but those of `regs`, every flag but those of `flags`, SP unless `spWritten`, and every byte
of memory but those at `stored`, are unchanged; so are `first_step` and the parameters. -/
structure Frame (s t : State) (regs : List Reg) (flags : List Flag) (spWritten : Bool) (stored : List Word) : Prop where
  reg : ∀ r, r ∉ regs → t.reg r = s.reg r
  flag : ∀ x, x ∉ flags → Claims.flag t x = Claims.flag s x
  sp : spWritten = false → t.sp = s.sp
  mem : ∀ a, a ∉ stored → t.read a = s.read a
  firstStep : t.firstStep = s.firstStep
  cfg : t.cfg = s.cfg

/-- How an instruction that is none of HALT, STOP and an undefined opcode ends: PC, the returned cost and IME as given; the wait states
unchanged; the halt-bug latch cleared (R137). -/
structure Ends (s t : State) (pc : Word) (cost : Nat) (ime : IME) : Prop where
  pc : t.pc = pc
  cost : t.cost = cost
  ime : t.ime = ime
  halted : t.halted = s.halted
  stopped : t.stopped = s.stopped
  locked : t.locked = s.locked
  haltbug : t.haltbug = false

/-- `hb` of R122. -/
def hb (s : State) : Word := if s.haltbug then 1#16 else 0#16

/-- `npc` of R137 for an instruction of `len` bytes. -/
def after (s : State) (len : Nat) : Word := s.pc + BitVec.ofNat 16 len - hb s

/-- IME after the automatic transition (R41). -/
def auto (s : State) : IME := if s.ime = .scheduled then .set else s.ime

/-- The pending set (R435). -/
def pend (s : State) : Byte := s.read 0xFFFF#16 &&& s.read 0xFF0F#16 &&& 0x1F#8

/-- HALT's condition for the halt bug (R411). -/
def haltBug (s : State) : Bool := decide (auto s ≠ .set) && decide (pend s ≠ 0#8)

/-! ### Operands -/

/-- The value of an r8 operand (R124, R344). -/
def value8 (s : State) : R8 → Byte
  | .reg r => s.reg r
  | .memHL => s.read (pair s.h s.l)

/-- The r8 operand holds `v` afterwards (R344): the register, or the byte at the HL of before. -/
def Holds8 (s t : State) (z : R8) (v : Byte) : Prop :=
  match z with
  | .reg r => t.reg r = v
  | .memHL => t.read (pair s.h s.l) = v

/-- The registers a write to an r8 operand may change. -/
def regs8 : R8 → List Reg
  | .reg r => [r]
  | .memHL => []

/-- The bytes a write to an r8 operand stores to. -/
def stored8 (s : State) : R8 → List Word
  | .reg _ => []
  | .memHL => [pair s.h s.l]

/-- A cost that depends on the r8 operand. -/
def cost8 (z : R8) (reg mem : Nat) : Nat :=
  match z with
  | .reg _ => reg
  | .memHL => mem

/-- The ALU's second operand (R260). -/
def aluValue (s : State) : AluSrc → Byte
  | .reg r => s.reg r
  | .memHL => s.read (pair s.h s.l)
  | .imm n => n

/-- The bytes of an ALU instruction (R260). -/
def aluBytes (op : AluOp) : AluSrc → List Byte
  | .reg r => [2#2 ++ op.code ++ r.code]
  | .memHL => [2#2 ++ op.code ++ 6#3]
  | .imm n => [3#2 ++ op.code ++ 6#3, n]

/-- The length of an ALU instruction (R260). -/
def aluLength : AluSrc → Nat
  | .reg _ => 1
  | .memHL => 1
  | .imm _ => 2

/-- The cost of an ALU instruction (R260). -/
def aluCycles : AluSrc → Nat
  | .reg _ => 4
  | .memHL => 8
  | .imm _ => 8

/-- The value of an r16 operand (R125). -/
def value16 (s : State) : R16 → Word
  | .bc => pair s.b s.c
  | .de => pair s.d s.e
  | .hl => pair s.h s.l
  | .sp => s.sp

/-- The registers of an r16 operand. -/
def regs16 : R16 → List Reg
  | .bc => [.b, .c]
  | .de => [.d, .e]
  | .hl => [.h, .l]
  | .sp => []

/-- Whether an r16 operand is SP. -/
def isSP : R16 → Bool
  | .bc => false
  | .de => false
  | .hl => false
  | .sp => true

/-- The value of an r16stk operand (R125, R244): for AF, A and F with its low nibble 0. -/
def valueStk (s : State) : R16Stk → Word
  | .bc => pair s.b s.c
  | .de => pair s.d s.e
  | .hl => pair s.h s.l
  | .af => pair s.a (s.f &&& 0xF0#8)

/-- The address of an r16mem operand (R125). -/
def address16 (s : State) : R16Mem → Word
  | .bc => pair s.b s.c
  | .de => pair s.d s.e
  | .hlInc => pair s.h s.l
  | .hlDec => pair s.h s.l

/-- HL after an r16mem operand (R125). -/
def hlAfter (s : State) : R16Mem → Word
  | .bc => pair s.h s.l
  | .de => pair s.h s.l
  | .hlInc => pair s.h s.l + 1
  | .hlDec => pair s.h s.l - 1

/-- The registers an r16mem operand changes. -/
def regsMem : R16Mem → List Reg
  | .bc => []
  | .de => []
  | .hlInc => [.h, .l]
  | .hlDec => [.h, .l]

/-- `cond(cc)` of R126. -/
def cond (s : State) : Cond → Bool
  | .nz => !flag s .z
  | .z => flag s .z
  | .nc => !flag s .c
  | .c => flag s .c

/-- A carry flag as 0 or 1. -/
def bit (b : Bool) : Nat := if b then 1 else 0

/-- The target of a relative jump (R384): the displacement, a signed byte, from the next instruction. -/
def relative (s : State) (e : Byte) : Word := BitVec.ofInt 16 ((after s 2).toNat + e.toInt)

/-! ### Rotates, bit by bit -/

/-- Bit `i` of the result of a rotate, shift or SWAP of `v`, `cin` the carry flag (R345 to R359). -/
def rotBit (op : RotOp) (v : Byte) (cin : Bool) (i : Nat) : Bool :=
  match op with
  | .rlc => v.getLsbD ((i + 7) % 8)
  | .rrc => v.getLsbD ((i + 1) % 8)
  | .rl => if i = 0 then cin else v.getLsbD (i - 1)
  | .rr => if i = 7 then cin else v.getLsbD (i + 1)
  | .sla => if i = 0 then false else v.getLsbD (i - 1)
  | .sra => if i = 7 then v.getLsbD 7 else v.getLsbD (i + 1)
  | .swap => v.getLsbD ((i + 4) % 8)
  | .srl => if i = 7 then false else v.getLsbD (i + 1)

/-- The new carry of a rotate, shift or SWAP. -/
def rotCarry (op : RotOp) (v : Byte) : Bool :=
  match op with
  | .rlc => v.getLsbD 7
  | .rrc => v.getLsbD 0
  | .rl => v.getLsbD 7
  | .rr => v.getLsbD 0
  | .sla => v.getLsbD 7
  | .sra => v.getLsbD 0
  | .swap => false
  | .srl => v.getLsbD 0

/-! ### Steps -/

/-- The core is neither locked, stopped nor halted. -/
def Active (s : State) : Prop := s.locked = false ∧ s.stopped = false ∧ s.halted = false

/-- The instruction that the bytes at PC decode to, the operand bytes shifted under the halt bug (R122, R133). -/
def current (s : State) : Instr := decodeBytes (s.read s.pc) (s.read (s.pc + 1 - hb s)) (s.read (s.pc + 2 - hb s))

/-- What an instruction step adds to the applied delta `t` (R136, R491). -/
def ended (s t : State) : State :=
  { t with cost := t.cost + (if s.firstStep = true ∧ s.pc = s.cfg.resetPc then 4 else 0), firstStep := false }

/-- A two-digit decimal number in BCD. -/
def bcd (x : Nat) : Byte := BitVec.ofNat 8 (16 * (x / 10) + x % 10)

/-- The instructions that may write the delta's `pc` field (46_control.md). -/
def isTransfer : Instr → Bool
  | .jpa16 _ => true
  | .jpNZa16 _ => true
  | .jpZa16 _ => true
  | .jpNCa16 _ => true
  | .jpCa16 _ => true
  | .jpHL => true
  | .jre8 _ => true
  | .jrNZe8 _ => true
  | .jrZe8 _ => true
  | .jrNCe8 _ => true
  | .jrCe8 _ => true
  | .calla16 _ => true
  | .callNZa16 _ => true
  | .callZa16 _ => true
  | .callNCa16 _ => true
  | .callCa16 _ => true
  | .ret => true
  | .retNZ => true
  | .retZ => true
  | .retNC => true
  | .retC => true
  | .reti => true
  | .rst00 => true
  | .rst08 => true
  | .rst10 => true
  | .rst18 => true
  | .rst20 => true
  | .rst28 => true
  | .rst30 => true
  | .rst38 => true
  | _ => false

/-- STOP, whatever its second byte. -/
def isStop : Instr → Bool
  | .stop _ => true
  | _ => false

end Sys2Proof.Claims

open Sys2Proof Sys2Proof.Machine Sys2Proof.Claims

/-! ### Encoding -/

/-- Words written out from R121, R129 and R130 decode to the instructions they stand for. -/
def Obligations.WrittenOutWordsDecode : Prop :=
  decodeTableWord 8 0b01000001 = some .ldBC ∧
  decodeTableWord 8 0b01110110 = some .halt ∧
  decode [0x01#8, 0xA0#8, 0x01#8] = .ok (.ldBCn16 0x01A0#16, []) ∧
  decode [0b00001000#8, 0x34#8, 0x12#8, 0x99#8] = .ok (.ldMema16SP 0x1234#16, [0x99#8]) ∧
  decode [0b10011110#8] = .ok (.sbcAMemHL, []) ∧
  decode [0b00111001#8] = .ok (.addHLSP, []) ∧
  decode [0xCB#8, 0b01111100#8] = .ok (.bit7H, []) ∧
  decode [0xCB#8, 0b00110110#8] = .ok (.swapMemHL, []) ∧
  decode [0b00101000#8, 0xFE#8] = .ok (.jrZe8 0xFE#8, []) ∧
  decode [0b11101111#8] = .ok (.rst28, []) ∧
  decode [0x10#8, 0x55#8] = .ok (.stop 0x55#8, []) ∧
  decode [0xD3#8] = .ok (.undefD3, []) ∧
  decode [0xCB#8] = .error .truncated

/-- HEADLINE. Decoding the encoding of a well-formed instruction, whatever bytes follow it, gives back the instruction and those bytes. -/
def Obligations.DecodeOfEncodeIsIdentity : Prop :=
  ∀ (i : Instr) (rest : List Byte), i.wellFormed = true → decode (encode i ++ rest) = .ok (i, rest)

/-- The other direction: what decodes is well formed, and its encoding is exactly the bytes read. No byte is dropped. -/
def Obligations.EncodeOfDecodeIsIdentity : Prop :=
  ∀ (bytes rest : List Byte) (i : Instr), decode bytes = .ok (i, rest) → i.wellFormed = true ∧ bytes = encode i ++ rest

/-- The operand fields of R124, R125 and R126 (and the ALU and prefixed groups of R260 and R130) select their operands in the decoder. -/
def Obligations.FieldsSelectOperands : Prop :=
  ∀ (dst src : Reg) (z : R8) (op : AluOp) (ro : RotOp) (p : R16) (q : R16Stk) (m : R16Mem) (cc : Cond) (y : BitVec 3) (b1 b2 : Byte),
    decodeBytes (1#2 ++ dst.code ++ src.code) b1 b2 = Instr.ldRR dst src ∧
    decodeBytes (1#2 ++ dst.code ++ 6#3) b1 b2 = Instr.ldRMem dst ∧
    decodeBytes (1#2 ++ 6#3 ++ src.code) b1 b2 = Instr.ldMemR src ∧
    decodeBytes (0#2 ++ dst.code ++ 6#3) b1 b2 = Instr.ldRN dst b1 ∧
    decodeBytes (0#2 ++ z.code ++ 4#3) b1 b2 = Instr.inc8 z ∧
    decodeBytes (0#2 ++ z.code ++ 5#3) b1 b2 = Instr.dec8 z ∧
    decodeBytes (2#2 ++ op.code ++ src.code) b1 b2 = Instr.alu op (.reg src) ∧
    decodeBytes (2#2 ++ op.code ++ 6#3) b1 b2 = Instr.alu op .memHL ∧
    decodeBytes (3#2 ++ op.code ++ 6#3) b1 b2 = Instr.alu op (.imm b1) ∧
    decodeBytes (0#2 ++ p.code ++ 1#4) b1 b2 = Instr.ldR16 p (pair b2 b1) ∧
    decodeBytes (0#2 ++ p.code ++ 9#4) b1 b2 = Instr.addHLR16 p ∧
    decodeBytes (0#2 ++ p.code ++ 3#4) b1 b2 = Instr.inc16 p ∧
    decodeBytes (0#2 ++ p.code ++ 11#4) b1 b2 = Instr.dec16 p ∧
    decodeBytes (0#2 ++ m.code ++ 2#4) b1 b2 = Instr.ldMemA m ∧
    decodeBytes (0#2 ++ m.code ++ 10#4) b1 b2 = Instr.ldAMem m ∧
    decodeBytes (3#2 ++ q.code ++ 1#4) b1 b2 = Instr.pop q ∧
    decodeBytes (3#2 ++ q.code ++ 5#4) b1 b2 = Instr.push q ∧
    decodeBytes (1#3 ++ cc.code ++ 0#3) b1 b2 = Instr.jrCC cc b1 ∧
    decodeBytes (6#3 ++ cc.code ++ 0#3) b1 b2 = Instr.retCC cc ∧
    decodeBytes (6#3 ++ cc.code ++ 2#3) b1 b2 = Instr.jpCC cc (pair b2 b1) ∧
    decodeBytes (6#3 ++ cc.code ++ 4#3) b1 b2 = Instr.callCC cc (pair b2 b1) ∧
    decodeBytes (3#2 ++ y ++ 7#3) b1 b2 = Instr.rst y ∧
    decodeBytes 0xCB#8 (0#2 ++ ro.code ++ z.code) b2 = Instr.rot ro z ∧
    decodeBytes 0xCB#8 (1#2 ++ y ++ z.code) b2 = Instr.bit y z ∧
    decodeBytes 0xCB#8 (2#2 ++ y ++ z.code) b2 = Instr.res y z ∧
    decodeBytes 0xCB#8 (3#2 ++ y ++ z.code) b2 = Instr.set y z

/-- Decode is total (R133): three bytes always decode, to what `decodeBytes` says; 0xCB selects by the second byte alone; exactly 11 base
opcode bytes are undefined, and no prefixed encoding is (R131). -/
def Obligations.DecodeIsTotalWithElevenUndefinedBytes : Prop :=
  (∀ b0 b1 b2 : Byte, ∃ rest, decode [b0, b1, b2] = .ok (decodeBytes b0 b1 b2, rest)) ∧
  (∀ b1 b2 : Byte, decodeBytes 0xCB#8 b1 b2 = decodeExtended b1) ∧
  (∀ b0 b1 b2 : Byte, decodeBytes b0 b1 b2 ∈ Instr.undefined ↔
    b0 ∈ [0xD3#8, 0xDB#8, 0xDD#8, 0xE3#8, 0xE4#8, 0xEB#8, 0xEC#8, 0xED#8, 0xF4#8, 0xFC#8, 0xFD#8])

/-- The prefix row's term (log 8) runs the instruction that its second byte selects from the extended map (R128); no byte after it matters. -/
def Obligations.PrefixRunsSelectedInstruction : Prop :=
  ∀ (b1 b2 : Byte) (s : State),
    encode (.prefixCB b1) = [0xCB#8, b1] ∧
    ∃ t, exec (.prefixCB b1) s = .next t ∧ exec (decodeBytes 0xCB#8 b1 b2) s = .next t

/-! ### State, registers, memory -/

/-- F is the Flag Set's byte, with the two round trips of R37; a read of F has its low nibble 0 (R34); the pairs are views,
`(high<<8)|low` (R32). -/
def Obligations.FlagByteAndPairViews : Prop :=
  (∀ f : FlagSet, FlagSet.fromByte f.toByte = f) ∧ (∀ v : Byte, (FlagSet.fromByte v).toByte = v &&& 0xF0#8) ∧
  (∀ s : State,
    s.readF = s.f &&& 0xF0#8 ∧ s.af.toNat = 256 * s.a.toNat + s.readF.toNat ∧ s.bc.toNat = 256 * s.b.toNat + s.c.toNat ∧
    s.de.toNat = 256 * s.d.toNat + s.e.toNat ∧ s.hl.toNat = 256 * s.h.toNat + s.l.toNat)

/-- Edits apply in list order, later edits to the same address win, and an address no edit names keeps its byte (R84). -/
def Obligations.LaterEditsWin : Prop :=
  ∀ (m : Memory) (before after : List (Word × Byte)) (a : Word) (v : Byte), (∀ e ∈ after, e.1 ≠ a) →
    (m.writeAll (before ++ (a, v) :: after)).read a = v ∧ (m.writeAll after).read a = m.read a

/-- Two memories in canonical form that read alike are the same data (log 3's form). -/
def Obligations.CanonicalMemoriesAreEqualData : Prop :=
  ∀ m n : Memory, m.wf = true → n.wf = true → (∀ a : Word, m.read a = n.read a) → m = n

/-- Reset (R480, R481, R482, R485, R486) under any parameters, applied at once to any state (R488), and the profile DMG_POST_BOOT (R483).
The flags' clause is R484, which the spec derives from R482 and R34. The model's choices: the parameters stand in the state (log 1),
RESET_MEM is a list whose last entry for an address wins (log 3), and the default reset PC is presumed (log 4). -/
def Obligations.ResetLeavesSpecifiedState : Prop :=
  (∀ old : State, ∃ s, s = hostReset old ∧ s.cfg = old.cfg ∧
    s.pc = s.cfg.resetPc ∧ s.sp = s.cfg.resetRegs.sp ∧ s.ime = .unset ∧
    s.a = s.cfg.resetRegs.a ∧ s.f = s.cfg.resetRegs.f &&& 0xF0#8 ∧ s.b = s.cfg.resetRegs.b ∧ s.c = s.cfg.resetRegs.c ∧
    s.d = s.cfg.resetRegs.d ∧ s.e = s.cfg.resetRegs.e ∧ s.h = s.cfg.resetRegs.h ∧ s.l = s.cfg.resetRegs.l ∧
    flag s .z = s.cfg.resetRegs.f.getLsbD 7 ∧ flag s .n = s.cfg.resetRegs.f.getLsbD 6 ∧
    flag s .h = s.cfg.resetRegs.f.getLsbD 5 ∧ flag s .c = s.cfg.resetRegs.f.getLsbD 4 ∧
    s.halted = false ∧ s.stopped = false ∧ s.locked = false ∧ s.haltbug = false ∧ s.firstStep = true ∧
    (∀ a v rest before, s.cfg.resetMem = before ++ (a, v) :: rest → (∀ e ∈ rest, e.1 ≠ a) → s.read a = v)) ∧
  State.reset.pc = 0x0000#16 ∧
  (∃ s, s = State.resetWith Config.dmgPostBoot ∧ s.pc = 0x0100#16 ∧ s.a = 0x01#8 ∧ s.f = 0xB0#8 ∧ s.b = 0x00#8 ∧ s.c = 0x13#8 ∧
    s.d = 0x00#8 ∧ s.e = 0xD8#8 ∧ s.h = 0x01#8 ∧ s.l = 0x4D#8 ∧ s.sp = 0xFFFE#16 ∧ s.ime = .unset)

/-! ### The step -/

/-- A STEP RUNS THE DECODED INSTRUCTION. When the core is active and no interrupt is dispatched, step is exec of the instruction at PC,
with the first-step rule around it (R136, R491). -/
def Obligations.StepRunsDecodedInstruction : Prop :=
  ∀ (s t : State), Active s → ¬(s.ime = .set ∧ pend s ≠ 0#8) →
    exec (current s) s = .next t → step s = .next (ended s t)

/-- Every step of every state answers a next state, and so does every instruction: "The core raises no synchronous exception" (R430).
The model's choices: "no step" of a stopped or locked core is a next state (log 6, R446), and the prefix row's term has a meaning (log 8). -/
def Obligations.NothingFaults : Prop :=
  (∀ (i : Instr) (s : State), ∃ t, exec i s = .next t) ∧ (∀ s : State, ∃ t, step s = .next t)

/-- A stopped or locked core has no step: nothing changes, no time is taken (R446, R493). That the model answers a next state with cost 0
is the model's choice (log 6). -/
def Obligations.StoppedOrLockedDoesNothing : Prop :=
  ∀ s : State, (s.stopped = true ∨ s.locked = true) → step s = .next { s with cost := 0 }

/-- Reset is the only way out of `locked` (R51, R485): no step, no STOP_WAKE and no host edit leaves it. -/
def Obligations.OnlyResetUnlocks : Prop :=
  ∀ s : State, s.locked = true →
    (∀ t, step s = .next t → t.locked = true) ∧ (stopWake s).locked = true ∧
    (∀ edits, (hostEdit edits s).locked = true) ∧ (∀ a, (hostMovePc a s).locked = true) ∧
    (∀ start len bytes t, loadBulk start len bytes s = .next t → t.locked = true) ∧
    (hostReset s).locked = false

/-- STOP and its wake (R412, R446): from a running core STOP stops it (a further step answers the same state with cost 0, log 6); STOP_WAKE
clears `stopped` and nothing else, and the next step proceeds as that of a running core at the STOP address + 2. -/
def Obligations.StopWakeResumesAfterStop : Prop :=
  ∀ (n : Byte) (s : State), Active s → ¬(s.ime = .set ∧ pend s ≠ 0#8) → current s = .stop n →
    ∃ t, step s = .next t ∧ t.stopped = true ∧ step t = .next { t with cost := 0 } ∧
      stopWake t = { t with stopped := false } ∧ Active (stopWake t) ∧ (stopWake t).pc = s.pc + 2 - hb s

/-- A halted core idles for 4 T-states while nothing is pending; otherwise it wakes, and does what the awake core does, 4 T-states later
(R441). -/
def Obligations.HaltedCoreIdlesOrWakes : Prop :=
  ∀ s : State, s.locked = false → s.stopped = false → s.halted = true →
    (pend s = 0#8 → step s = .next { s with cost := 4 }) ∧
    (pend s ≠ 0#8 → ∃ t, step { s with halted := false } = .next t ∧ step s = .next { t with cost := t.cost + 4 })

/-- TAKING AN INTERRUPT (R436 to R439): the lowest pending source is served; PC is pushed, the high byte first; its IF bit is cleared (the
pushed bytes win); IME is Unset; PC is the vector; nothing else changes. -/
def Obligations.DispatchTakesLowestPending : Prop :=
  ∀ s : State, Active s → s.ime = .set → pend s ≠ 0#8 →
    ∃ (t : State) (n : Nat), step s = .next t ∧
      n < 5 ∧ (pend s).getLsbD n = true ∧ (∀ k, k < n → (pend s).getLsbD k = false) ∧
      t.read (s.sp - 1) = hi s.pc ∧ t.read (s.sp - 2) = lo s.pc ∧
      (s.sp - 1 ≠ 0xFF0F#16 → s.sp - 2 ≠ 0xFF0F#16 →
        ∀ k, k < 8 → (t.read 0xFF0F#16).getLsbD k = (if k = n then false else (s.read 0xFF0F#16).getLsbD k)) ∧
      t.sp = s.sp - 2 ∧
      Frame s t [] [] true [0xFF0F#16, s.sp - 1, s.sp - 2] ∧
      t.pc = BitVec.ofNat 16 (0x40 + 8 * n) ∧ t.ime = .unset ∧ t.cost = 20 ∧
      t.halted = false ∧ t.stopped = false ∧ t.locked = false ∧ t.haltbug = s.haltbug

/-- EI's delay (R41, R42, R436): EI from Unset gives Scheduled (R414); a step that starts Scheduled never dispatches, whatever is pending,
and after its instruction IME is Set, or Unset if that instruction is DI (R413). R42's sentence "So after EI at step n, no interrupt is
dispatched before step n+2" is one the spec marks as its own inference, from R41 and R436. -/
def Obligations.InterruptsWaitOneInstruction : Prop :=
  (∀ s : State, s.ime = .unset → ∃ t, exec .ei s = .next t ∧ t.ime = .scheduled) ∧
  (∀ s : State, Active s → s.ime = .scheduled →
    ∃ t, exec (current s) s = .next t ∧ step s = .next (ended s t) ∧
      t.ime = (if current s = .di then .unset else .set))

/-- IME's transitions (R40, R41), over every instruction: DI (R413) and RETI (R390) explicitly, EI (R414) from Unset, else the automatic
one. That EI schedules from Unset only is the model's reading (log 25): R40 read plainly says from any state. -/
def Obligations.ImeTransitionsAreExactlyThese : Prop :=
  ∀ (i : Instr) (s : State), ∃ t, exec i s = .next t ∧
    t.ime = (if i = .di then .unset else if i = .reti then .set
      else if i = .ei ∧ s.ime = .unset then .scheduled else auto s)

/-- Every instruction that is no control transfer leaves PC after its own bytes, one less under the halt bug; an undefined opcode leaves
PC (R137). -/
def Obligations.OtherInstructionsFallThrough : Prop :=
  ∀ (i : Instr) (s : State), isTransfer i = false → ∃ t, exec i s = .next t ∧
    t.pc = (if i ∈ Instr.undefined then s.pc else after s (encode i).length)

/-- The wait states and the halt-bug latch are entered by their own instructions only (R452, R48, R51), and no instruction leaves a wait
state. -/
def Obligations.WaitStatesAreEnteredOnlyAsStated : Prop :=
  ∀ (i : Instr) (s : State), ∃ t, exec i s = .next t ∧
    t.halted = (s.halted || (decide (i = .halt) && !haltBug s)) ∧
    t.haltbug = (decide (i = .halt) && haltBug s) ∧
    t.stopped = (s.stopped || isStop i) ∧
    t.locked = (s.locked || (decide (i ∈ Instr.undefined) && decide (s.cfg.undefPolicy = .lock)))

/-- HEADLINE. Every step keeps the invariant, from every state that has it. -/
def Obligations.EveryStepKeepsInv : Prop :=
  ∀ s t : State, s.Inv → step s = .next t → t.Inv

/-- Reset has the invariant, under any parameters. -/
def Obligations.ResetHasInv : Prop :=
  (∀ cfg : Config, (State.resetWith cfg).Inv) ∧ State.reset.Inv

/-- The host's inputs between steps keep the invariant: memory edits, `load_bulk`, STOP_WAKE, reset (R98, R97, R446, R488). -/
def Obligations.HostInputsKeepInv : Prop :=
  ∀ s : State, s.Inv →
    (∀ edits, (hostEdit edits s).Inv) ∧ (∀ a, (hostMovePc a s).Inv) ∧ (stopWake s).Inv ∧ (hostReset s).Inv ∧
    (∀ start len bytes t, loadBulk start len bytes s = .next t → t.Inv)

/-- A step with the halt-bug latch set never dispatches (R436): it runs the instruction at PC, and clears the latch unless that
instruction is HALT. -/
def Obligations.LatchedStepRunsInstruction : Prop :=
  ∀ s : State, s.Inv → s.haltbug = true →
    ∃ t, exec (current s) s = .next t ∧ step s = .next (ended s t) ∧ (current s ≠ .halt → t.haltbug = false)

/-- No step changes the parameters (log 1); `first_step` is cleared by an instruction step and by nothing set again (R49, R491); the
returned cost is an output, and no step depends on the field it starts with (log 5, R54). -/
def Obligations.ParametersFirstStepAndCost : Prop :=
  (∀ s t : State, step s = .next t →
    t.cfg = s.cfg ∧
    t.firstStep = (s.firstStep && (s.locked || s.stopped || (s.halted && decide (pend s = 0#8)) ||
      (decide (s.ime = .set) && decide (pend s ≠ 0#8))))) ∧
  (∀ (s : State) (k : Nat), step { s with cost := k } = step s)

/-! ### The host's entry points -/

/-- `load_bulk` (R97): copies up to `min(range.len, bytes.len)` values, leaves the rest, and refuses a range past 0xFFFF. -/
def Obligations.LoadBulkCopiesBytes : Prop :=
  ∀ (s : State) (start len : Nat) (bytes : List Byte),
    (65536 < start + len → loadBulk start len bytes s = .refused .rangePastAddressSpace) ∧
    (start + len ≤ 65536 → ∃ t, loadBulk start len bytes s = .next t ∧
      (∀ k, k < min len bytes.length → t.read (BitVec.ofNat 16 (start + k)) = bytes.getD k 0#8) ∧
      (∀ a : Word, (a.toNat < start ∨ start + min len bytes.length ≤ a.toNat) → t.read a = s.read a) ∧
      { t with mem := s.mem } = s)

/-- `execute(opcode)` and `execute_with_args(opcode, operand_bytes)` (R138), in every state, halted or with an interrupt pending too. -/
def Obligations.ExecuteRunsOpcode : Prop :=
  ∀ (op x y : Byte) (s : State),
    (∃ t, exec (decodeBytes op (s.read (s.pc + 1 - hb s)) (s.read (s.pc + 2 - hb s))) s = .next t ∧
      execute op s = .next (ended s t)) ∧
    (s.haltbug = false → ∃ t, exec (decodeBytes op x y) (hostEdit [(s.pc + 1, x), (s.pc + 2, y)] s) = .next t ∧
      executeWithArgs op [x, y] s = .next (ended (hostEdit [(s.pc + 1, x), (s.pc + 2, y)] s) t))

/-! ### 8-bit loads and stores -/

/-- `LD r,r'`, `LD r,n8`, `LD r,(HL)` (R200, R201, R202). -/
def Obligations.LoadRegister : Prop :=
  ∀ (dst src : Reg) (n : Byte) (s : State),
    (encode (Instr.ldRR dst src) = [1#2 ++ dst.code ++ src.code] ∧
      ∃ t, exec (Instr.ldRR dst src) s = .next t ∧ t.reg dst = s.reg src ∧ Frame s t [dst] [] false [] ∧
        Ends s t (after s 1) 4 (auto s)) ∧
    (encode (Instr.ldRN dst n) = [0#2 ++ dst.code ++ 6#3, n] ∧
      ∃ t, exec (Instr.ldRN dst n) s = .next t ∧ t.reg dst = n ∧ Frame s t [dst] [] false [] ∧
        Ends s t (after s 2) 8 (auto s)) ∧
    (encode (Instr.ldRMem dst) = [1#2 ++ dst.code ++ 6#3] ∧
      ∃ t, exec (Instr.ldRMem dst) s = .next t ∧ t.reg dst = s.read (pair s.h s.l) ∧ Frame s t [dst] [] false [] ∧
        Ends s t (after s 1) 8 (auto s))

/-- `LD (HL),r` and `LD (HL),n8` (R203, R204). -/
def Obligations.StoreAtHL : Prop :=
  ∀ (z : Reg) (n : Byte) (s : State),
    (encode (Instr.ldMemR z) = [1#2 ++ 6#3 ++ z.code] ∧
      ∃ t, exec (Instr.ldMemR z) s = .next t ∧ t.read (pair s.h s.l) = s.reg z ∧
        Frame s t [] [] false [pair s.h s.l] ∧ Ends s t (after s 1) 8 (auto s)) ∧
    (encode (.ldMemHLn8 n) = [0x36#8, n] ∧
      ∃ t, exec (.ldMemHLn8 n) s = .next t ∧ t.read (pair s.h s.l) = n ∧
        Frame s t [] [] false [pair s.h s.l] ∧ Ends s t (after s 2) 12 (auto s))

/-- `LD A,(BC)`, `LD A,(DE)`, `LD A,(HL+)`, `LD A,(HL-)` (R205, R206, R215, R216). -/
def Obligations.LoadAIndirect : Prop :=
  ∀ (m : R16Mem) (s : State),
    encode (Instr.ldAMem m) = [0#2 ++ m.code ++ 10#4] ∧
    ∃ t, exec (Instr.ldAMem m) s = .next t ∧ t.a = s.read (address16 s m) ∧ pair t.h t.l = hlAfter s m ∧
      Frame s t (.a :: regsMem m) [] false [] ∧ Ends s t (after s 1) 8 (auto s)

/-- `LD (BC),A`, `LD (DE),A`, `LD (HL+),A`, `LD (HL-),A` (R207, R208, R217, R218): the store goes to the old address. -/
def Obligations.StoreAIndirect : Prop :=
  ∀ (m : R16Mem) (s : State),
    encode (Instr.ldMemA m) = [0#2 ++ m.code ++ 2#4] ∧
    ∃ t, exec (Instr.ldMemA m) s = .next t ∧ t.read (address16 s m) = s.a ∧ pair t.h t.l = hlAfter s m ∧
      Frame s t (regsMem m) [] false [address16 s m] ∧ Ends s t (after s 1) 8 (auto s)

/-- `LD A,(a16)`, `LDH A,(C)`, `LDH A,(a8)` (R209, R211, R213). -/
def Obligations.LoadAFromGivenAddress : Prop :=
  ∀ (a : Word) (o : Byte) (s : State),
    (encode (.ldAMema16 a) = [0xFA#8, lo a, hi a] ∧
      ∃ t, exec (.ldAMema16 a) s = .next t ∧ t.a = s.read a ∧ Frame s t [.a] [] false [] ∧
        Ends s t (after s 3) 16 (auto s)) ∧
    (encode .ldhAMemC = [0xF2#8] ∧
      ∃ t, exec .ldhAMemC s = .next t ∧ t.a = s.read (BitVec.ofNat 16 (0xFF00 + s.c.toNat)) ∧ Frame s t [.a] [] false [] ∧
        Ends s t (after s 1) 8 (auto s)) ∧
    (encode (.ldhAMema8 o) = [0xF0#8, o] ∧
      ∃ t, exec (.ldhAMema8 o) s = .next t ∧ t.a = s.read (BitVec.ofNat 16 (0xFF00 + o.toNat)) ∧ Frame s t [.a] [] false [] ∧
        Ends s t (after s 2) 12 (auto s))

/-- `LD (a16),A`, `LDH (C),A`, `LDH (a8),A` (R210, R212, R214). -/
def Obligations.StoreAAtGivenAddress : Prop :=
  ∀ (a : Word) (o : Byte) (s : State),
    (encode (.ldMema16A a) = [0xEA#8, lo a, hi a] ∧
      ∃ t, exec (.ldMema16A a) s = .next t ∧ t.read a = s.a ∧ Frame s t [] [] false [a] ∧
        Ends s t (after s 3) 16 (auto s)) ∧
    (encode .ldhMemCA = [0xE2#8] ∧
      ∃ t, exec .ldhMemCA s = .next t ∧ t.read (BitVec.ofNat 16 (0xFF00 + s.c.toNat)) = s.a ∧
        Frame s t [] [] false [BitVec.ofNat 16 (0xFF00 + s.c.toNat)] ∧ Ends s t (after s 1) 8 (auto s)) ∧
    (encode (.ldhMema8A o) = [0xE0#8, o] ∧
      ∃ t, exec (.ldhMema8A o) s = .next t ∧ t.read (BitVec.ofNat 16 (0xFF00 + o.toNat)) = s.a ∧
        Frame s t [] [] false [BitVec.ofNat 16 (0xFF00 + o.toNat)] ∧ Ends s t (after s 2) 12 (auto s))

/-! ### 16-bit loads, PUSH, POP -/

/-- `LD r16,n16` and `LD SP,HL` (R240, R242). -/
def Obligations.LoadPair : Prop :=
  ∀ (p : R16) (n : Word) (s : State),
    (encode (Instr.ldR16 p n) = [0#2 ++ p.code ++ 1#4, lo n, hi n] ∧
      ∃ t, exec (Instr.ldR16 p n) s = .next t ∧ value16 t p = n ∧ Frame s t (regs16 p) [] (isSP p) [] ∧
        Ends s t (after s 3) 12 (auto s)) ∧
    (encode .ldSPHL = [0xF9#8] ∧
      ∃ t, exec .ldSPHL s = .next t ∧ t.sp = pair s.h s.l ∧ Frame s t [] [] true [] ∧
        Ends s t (after s 1) 8 (auto s))

/-- `LD (a16),SP` (R241): the low byte at a16, the high byte at a16+1. -/
def Obligations.StoreStackPointer : Prop :=
  ∀ (a : Word) (s : State),
    encode (.ldMema16SP a) = [0x08#8, lo a, hi a] ∧
    ∃ t, exec (.ldMema16SP a) s = .next t ∧ t.read a = lo s.sp ∧ t.read (a + 1) = hi s.sp ∧
      Frame s t [] [] false [a, a + 1] ∧ Ends s t (after s 3) 20 (auto s)

/-- `LD HL,SP+e8` and `ADD SP,e8` (R243, R325, R324): the sum with the signed byte; H and C from the unsigned low-byte addition. -/
def Obligations.StackPointerOffset : Prop :=
  ∀ (e : Byte) (s : State),
    (encode (.ldHLSPe8 e) = [0xF8#8, e] ∧
      ∃ t, exec (.ldHLSPe8 e) s = .next t ∧ pair t.h t.l = BitVec.ofInt 16 (s.sp.toNat + e.toInt) ∧
        flag t .z = false ∧ flag t .n = false ∧
        flag t .h = decide (16 ≤ s.sp.toNat % 16 + e.toNat % 16) ∧ flag t .c = decide (256 ≤ s.sp.toNat % 256 + e.toNat) ∧
        Frame s t [.h, .l] [.z, .n, .h, .c] false [] ∧ Ends s t (after s 2) 12 (auto s)) ∧
    (encode (.addSPe8 e) = [0xE8#8, e] ∧
      ∃ t, exec (.addSPe8 e) s = .next t ∧ t.sp = BitVec.ofInt 16 (s.sp.toNat + e.toInt) ∧
        flag t .z = false ∧ flag t .n = false ∧
        flag t .h = decide (16 ≤ s.sp.toNat % 16 + e.toNat % 16) ∧ flag t .c = decide (256 ≤ s.sp.toNat % 256 + e.toNat) ∧
        Frame s t [] [.z, .n, .h, .c] true [] ∧ Ends s t (after s 2) 16 (auto s))

/-- `PUSH r16stk` (R244): the high byte at SP-1, the low byte at SP-2. -/
def Obligations.PushStoresPair : Prop :=
  ∀ (q : R16Stk) (s : State),
    encode (Instr.push q) = [3#2 ++ q.code ++ 5#4] ∧
    ∃ t, exec (Instr.push q) s = .next t ∧
      t.read (s.sp - 1) = hi (valueStk s q) ∧ t.read (s.sp - 2) = lo (valueStk s q) ∧ t.sp = s.sp - 2 ∧
      Frame s t [] [] true [s.sp - 1, s.sp - 2] ∧ Ends s t (after s 1) 16 (auto s)

/-- `POP r16` and `POP AF` (R245, R246): the low byte from SP, the high byte from SP+1; F's bits 3..0 are discarded. -/
def Obligations.PopLoadsPair : Prop :=
  ∀ s : State,
    (∀ q : R16Stk, encode (Instr.pop q) = [3#2 ++ q.code ++ 1#4]) ∧
    (∃ t, exec (Instr.pop .bc) s = .next t ∧ t.b = s.read (s.sp + 1) ∧ t.c = s.read s.sp ∧ t.sp = s.sp + 2 ∧
      Frame s t [.b, .c] [] true [] ∧ Ends s t (after s 1) 12 (auto s)) ∧
    (∃ t, exec (Instr.pop .de) s = .next t ∧ t.d = s.read (s.sp + 1) ∧ t.e = s.read s.sp ∧ t.sp = s.sp + 2 ∧
      Frame s t [.d, .e] [] true [] ∧ Ends s t (after s 1) 12 (auto s)) ∧
    (∃ t, exec (Instr.pop .hl) s = .next t ∧ t.h = s.read (s.sp + 1) ∧ t.l = s.read s.sp ∧ t.sp = s.sp + 2 ∧
      Frame s t [.h, .l] [] true [] ∧ Ends s t (after s 1) 12 (auto s)) ∧
    (∃ t, exec (Instr.pop .af) s = .next t ∧ t.a = s.read (s.sp + 1) ∧ t.f = s.read s.sp &&& 0xF0#8 ∧ t.sp = s.sp + 2 ∧
      Frame s t [.a] [.z, .n, .h, .c] true [] ∧ Ends s t (after s 1) 12 (auto s))

/-! ### 8-bit arithmetic and logic -/

/-- `ADD` and `ADC`, every second operand (R261, R263 to R268). -/
def Obligations.AddSetsResultAndFlags : Prop :=
  ∀ (carry : Bool) (src : AluSrc) (s : State) (op : AluOp) (cin sum : Nat),
    op = (if carry then .adc else .add) → cin = bit (carry && flag s .c) →
    sum = s.a.toNat + (aluValue s src).toNat + cin →
    encode (Instr.alu op src) = aluBytes op src ∧
    ∃ t, exec (Instr.alu op src) s = .next t ∧ t.a = BitVec.ofNat 8 sum ∧
      flag t .z = decide (sum % 256 = 0) ∧ flag t .n = false ∧
      flag t .h = decide (16 ≤ s.a.toNat % 16 + (aluValue s src).toNat % 16 + cin) ∧ flag t .c = decide (256 ≤ sum) ∧
      Frame s t [.a] [.z, .n, .h, .c] false [] ∧ Ends s t (after s (aluLength src)) (aluCycles src) (auto s)

/-- `SUB`, `SBC` and `CP`, every second operand (R262, R269 to R274, R284 to R286): CP leaves A. -/
def Obligations.SubtractSetsResultAndFlags : Prop :=
  ∀ (op : AluOp) (src : AluSrc) (s : State) (bin : Nat),
    (op = .sub ∨ op = .sbc ∨ op = .cp) → bin = bit (decide (op = .sbc) && flag s .c) →
    encode (Instr.alu op src) = aluBytes op src ∧
    ∃ t, exec (Instr.alu op src) s = .next t ∧
      t.a = (if op = .cp then s.a else BitVec.ofInt 8 ((s.a.toNat : Int) - (aluValue s src).toNat - bin)) ∧
      flag t .z = decide (((s.a.toNat : Int) - (aluValue s src).toNat - bin) % 256 = 0) ∧ flag t .n = true ∧
      flag t .h = decide (s.a.toNat % 16 < (aluValue s src).toNat % 16 + bin) ∧
      flag t .c = decide (s.a.toNat < (aluValue s src).toNat + bin) ∧
      Frame s t [.a] [.z, .n, .h, .c] false [] ∧ Ends s t (after s (aluLength src)) (aluCycles src) (auto s)

/-- `AND`, `XOR` and `OR`, every second operand (R275 to R283). -/
def Obligations.LogicSetsResultAndFlags : Prop :=
  ∀ (src : AluSrc) (s : State) (op : AluOp) (res : Byte),
    ((op = .and ∧ res = s.a &&& aluValue s src) ∨ (op = .xor ∧ res = s.a ^^^ aluValue s src) ∨
      (op = .or ∧ res = s.a ||| aluValue s src)) →
    encode (Instr.alu op src) = aluBytes op src ∧
    ∃ t, exec (Instr.alu op src) s = .next t ∧ t.a = res ∧
      flag t .z = decide (res = 0#8) ∧ flag t .n = false ∧ flag t .h = decide (op = .and) ∧ flag t .c = false ∧
      Frame s t [.a] [.z, .n, .h, .c] false [] ∧ Ends s t (after s (aluLength src)) (aluCycles src) (auto s)

/-- `INC r`, `INC (HL)`, `DEC r`, `DEC (HL)` (R287 to R290): C is unchanged. -/
def Obligations.IncrementAndDecrementByte : Prop :=
  ∀ (z : R8) (s : State),
    (encode (Instr.inc8 z) = [0#2 ++ z.code ++ 4#3] ∧
      ∃ t, exec (Instr.inc8 z) s = .next t ∧ Holds8 s t z (value8 s z + 1) ∧
        flag t .z = decide (value8 s z = 0xFF#8) ∧ flag t .n = false ∧ flag t .h = decide ((value8 s z).toNat % 16 = 15) ∧
        Frame s t (regs8 z) [.z, .n, .h] false (stored8 s z) ∧ Ends s t (after s 1) (cost8 z 4 12) (auto s)) ∧
    (encode (Instr.dec8 z) = [0#2 ++ z.code ++ 5#3] ∧
      ∃ t, exec (Instr.dec8 z) s = .next t ∧ Holds8 s t z (value8 s z - 1) ∧
        flag t .z = decide (value8 s z = 0x01#8) ∧ flag t .n = true ∧ flag t .h = decide ((value8 s z).toNat % 16 = 0) ∧
        Frame s t (regs8 z) [.z, .n, .h] false (stored8 s z) ∧ Ends s t (after s 1) (cost8 z 4 12) (auto s))

/-- `DAA` (R291), for every A, N, H and C. -/
def Obligations.DecimalAdjust : Prop :=
  ∀ (s : State) (res : Int) (c : Bool),
    (flag s .n = false ∧ c = (flag s .c || decide (0x99 < s.a.toNat)) ∧
        res = (s.a.toNat : Int) + (if c then 0x60 else 0) +
          (if (flag s .h || decide (9 < s.a.toNat % 16)) = true then 0x06 else 0)) ∨
      (flag s .n = true ∧ c = flag s .c ∧
        res = (s.a.toNat : Int) - (if flag s .c then 0x60 else 0) - (if flag s .h then 0x06 else 0)) →
    encode .daa = [0x27#8] ∧
    ∃ t, exec .daa s = .next t ∧ t.a = BitVec.ofInt 8 res ∧
      flag t .z = decide (BitVec.ofInt 8 res = 0#8) ∧ flag t .h = false ∧ flag t .c = c ∧
      Frame s t [.a] [.z, .h, .c] false [] ∧ Ends s t (after s 1) 4 (auto s)

/-- DAA does what it is for: after ADD or SUB of two-digit decimals in BCD it leaves the decimal sum or difference modulo 100, and
C is the decimal carry or borrow. -/
def Obligations.DecimalArithmeticIsCorrect : Prop :=
  ∀ (s : State) (x y : Nat), x < 100 → y < 100 → s.a = bcd x → s.b = bcd y →
    (∃ t u, exec .addAB s = .next t ∧ exec .daa t = .next u ∧ u.a = bcd ((x + y) % 100) ∧
      flag u .c = decide (100 ≤ x + y) ∧ flag u .z = decide ((x + y) % 100 = 0)) ∧
    (∃ t u, exec .subB s = .next t ∧ exec .daa t = .next u ∧ u.a = bcd ((x + 100 - y) % 100) ∧
      flag u .c = decide (x < y) ∧ flag u .z = decide (x = y))

/-- `CPL`, `SCF`, `CCF` (R292, R293, R294). -/
def Obligations.ComplementAndCarryFlag : Prop :=
  ∀ s : State,
    (encode .cpl = [0x2F#8] ∧
      ∃ t, exec .cpl s = .next t ∧ (∀ i, i < 8 → t.a.getLsbD i = !s.a.getLsbD i) ∧ flag t .n = true ∧ flag t .h = true ∧
        Frame s t [.a] [.n, .h] false [] ∧ Ends s t (after s 1) 4 (auto s)) ∧
    (encode .scf = [0x37#8] ∧
      ∃ t, exec .scf s = .next t ∧ flag t .n = false ∧ flag t .h = false ∧ flag t .c = true ∧
        Frame s t [] [.n, .h, .c] false [] ∧ Ends s t (after s 1) 4 (auto s)) ∧
    (encode .ccf = [0x3F#8] ∧
      ∃ t, exec .ccf s = .next t ∧ flag t .n = false ∧ flag t .h = false ∧ flag t .c = !flag s .c ∧
        Frame s t [] [.n, .h, .c] false [] ∧ Ends s t (after s 1) 4 (auto s))

/-! ### 16-bit arithmetic -/

/-- `ADD HL,r16` (R320, R321): H out of bit 11, C out of bit 15, Z unchanged. -/
def Obligations.AddToHL : Prop :=
  ∀ (p : R16) (s : State),
    encode (Instr.addHLR16 p) = [0#2 ++ p.code ++ 9#4] ∧
    ∃ t, exec (Instr.addHLR16 p) s = .next t ∧
      pair t.h t.l = BitVec.ofNat 16 ((pair s.h s.l).toNat + (value16 s p).toNat) ∧ flag t .n = false ∧
      flag t .h = decide (4096 ≤ (pair s.h s.l).toNat % 4096 + (value16 s p).toNat % 4096) ∧
      flag t .c = decide (65536 ≤ (pair s.h s.l).toNat + (value16 s p).toNat) ∧
      Frame s t [.h, .l] [.n, .h, .c] false [] ∧ Ends s t (after s 1) 8 (auto s)

/-- `INC r16` and `DEC r16` (R322, R323): no flag. -/
def Obligations.IncrementAndDecrementPair : Prop :=
  ∀ (p : R16) (s : State),
    (encode (Instr.inc16 p) = [0#2 ++ p.code ++ 3#4] ∧
      ∃ t, exec (Instr.inc16 p) s = .next t ∧ value16 t p = value16 s p + 1 ∧ Frame s t (regs16 p) [] (isSP p) [] ∧
        Ends s t (after s 1) 8 (auto s)) ∧
    (encode (Instr.dec16 p) = [0#2 ++ p.code ++ 11#4] ∧
      ∃ t, exec (Instr.dec16 p) s = .next t ∧ value16 t p = value16 s p - 1 ∧ Frame s t (regs16 p) [] (isSP p) [] ∧
        Ends s t (after s 1) 8 (auto s))

/-! ### Rotates, shifts, bits -/

/-- `RLCA`, `RRCA`, `RLA`, `RRA` (R340 to R343): Z is cleared. -/
def Obligations.RotateAccumulator : Prop :=
  ∀ (i : Instr) (op : RotOp) (b : Byte) (s : State),
    (i = .rlca ∧ op = .rlc ∧ b = 0x07#8) ∨ (i = .rrca ∧ op = .rrc ∧ b = 0x0F#8) ∨ (i = .rla ∧ op = .rl ∧ b = 0x17#8) ∨
      (i = .rra ∧ op = .rr ∧ b = 0x1F#8) →
    encode i = [b] ∧
    ∃ t, exec i s = .next t ∧ (∀ k, k < 8 → t.a.getLsbD k = rotBit op s.a (flag s .c) k) ∧
      flag t .z = false ∧ flag t .n = false ∧ flag t .h = false ∧ flag t .c = rotCarry op s.a ∧
      Frame s t [.a] [.z, .n, .h, .c] false [] ∧ Ends s t (after s 1) 4 (auto s)

/-- The rotates, shifts and SWAP of the prefixed space, register and (HL) (R345 to R360). -/
def Obligations.RotateShiftSwap : Prop :=
  ∀ (op : RotOp) (z : R8) (s : State),
    encode (Instr.rot op z) = [0xCB#8, 0#2 ++ op.code ++ z.code] ∧
    ∃ (t : State) (res : Byte), exec (Instr.rot op z) s = .next t ∧
      (∀ k, k < 8 → res.getLsbD k = rotBit op (value8 s z) (flag s .c) k) ∧ Holds8 s t z res ∧
      flag t .z = decide (res = 0#8) ∧ flag t .n = false ∧ flag t .h = false ∧ flag t .c = rotCarry op (value8 s z) ∧
      Frame s t (regs8 z) [.z, .n, .h, .c] false (stored8 s z) ∧ Ends s t (after s 2) (cost8 z 8 16) (auto s)

/-- `BIT b,r8` (R361, R362): nothing is written but Z, N, H. -/
def Obligations.BitTestOnlyWritesFlags : Prop :=
  ∀ (b : BitVec 3) (z : R8) (s : State),
    encode (Instr.bit b z) = [0xCB#8, 1#2 ++ b ++ z.code] ∧
    ∃ t, exec (Instr.bit b z) s = .next t ∧
      flag t .z = !(value8 s z).getLsbD b.toNat ∧ flag t .n = false ∧ flag t .h = true ∧
      Frame s t [] [.z, .n, .h] false [] ∧ Ends s t (after s 2) (cost8 z 8 12) (auto s)

/-- `RES b,r8` and `SET b,r8` (R363 to R366): one bit of the operand, no flag. -/
def Obligations.BitResetAndSet : Prop :=
  ∀ (b : BitVec 3) (z : R8) (s : State),
    (encode (Instr.res b z) = [0xCB#8, 2#2 ++ b ++ z.code] ∧
      ∃ (t : State) (res : Byte), exec (Instr.res b z) s = .next t ∧
        (∀ k, k < 8 → res.getLsbD k = if k = b.toNat then false else (value8 s z).getLsbD k) ∧ Holds8 s t z res ∧
        Frame s t (regs8 z) [] false (stored8 s z) ∧ Ends s t (after s 2) (cost8 z 8 16) (auto s)) ∧
    (encode (Instr.set b z) = [0xCB#8, 3#2 ++ b ++ z.code] ∧
      ∃ (t : State) (res : Byte), exec (Instr.set b z) s = .next t ∧
        (∀ k, k < 8 → res.getLsbD k = if k = b.toNat then true else (value8 s z).getLsbD k) ∧ Holds8 s t z res ∧
        Frame s t (regs8 z) [] false (stored8 s z) ∧ Ends s t (after s 2) (cost8 z 8 16) (auto s))

/-! ### Control transfer -/

/-- `JP a16`, `JP HL`, `JR e8` (R381, R383, R384). -/
def Obligations.Jump : Prop :=
  ∀ (a : Word) (e : Byte) (s : State),
    (encode (.jpa16 a) = [0xC3#8, lo a, hi a] ∧
      ∃ t, exec (.jpa16 a) s = .next t ∧ Frame s t [] [] false [] ∧ Ends s t a 16 (auto s)) ∧
    (encode .jpHL = [0xE9#8] ∧
      ∃ t, exec .jpHL s = .next t ∧ Frame s t [] [] false [] ∧ Ends s t (pair s.h s.l) 4 (auto s)) ∧
    (encode (.jre8 e) = [0x18#8, e] ∧
      ∃ t, exec (.jre8 e) s = .next t ∧ Frame s t [] [] false [] ∧ Ends s t (relative s e) 12 (auto s))

/-- `JP cc,a16` and `JR cc,e8` (R382, R385), taken and not taken. -/
def Obligations.ConditionalJump : Prop :=
  ∀ (cc : Cond) (a : Word) (e : Byte) (s : State),
    (encode (Instr.jpCC cc a) = [6#3 ++ cc.code ++ 2#3, lo a, hi a] ∧
      ∃ t, exec (Instr.jpCC cc a) s = .next t ∧ Frame s t [] [] false [] ∧
        Ends s t (if cond s cc then a else after s 3) (if cond s cc then 16 else 12) (auto s)) ∧
    (encode (Instr.jrCC cc e) = [1#3 ++ cc.code ++ 0#3, e] ∧
      ∃ t, exec (Instr.jrCC cc e) s = .next t ∧ Frame s t [] [] false [] ∧
        Ends s t (if cond s cc then relative s e else after s 2) (if cond s cc then 12 else 8) (auto s))

/-- `CALL a16`, `RST vec` (R386, R391): the address after the instruction is pushed. -/
def Obligations.CallPushesReturnAddress : Prop :=
  ∀ (a : Word) (y : BitVec 3) (s : State),
    (encode (.calla16 a) = [0xCD#8, lo a, hi a] ∧
      ∃ t, exec (.calla16 a) s = .next t ∧ t.sp = s.sp - 2 ∧
        t.read (s.sp - 1) = hi (after s 3) ∧ t.read (s.sp - 2) = lo (after s 3) ∧
        Frame s t [] [] true [s.sp - 1, s.sp - 2] ∧ Ends s t a 24 (auto s)) ∧
    (encode (Instr.rst y) = [3#2 ++ y ++ 7#3] ∧
      ∃ t, exec (Instr.rst y) s = .next t ∧ t.sp = s.sp - 2 ∧
        t.read (s.sp - 1) = hi (after s 1) ∧ t.read (s.sp - 2) = lo (after s 1) ∧
        Frame s t [] [] true [s.sp - 1, s.sp - 2] ∧ Ends s t (BitVec.ofNat 16 (8 * y.toNat)) 16 (auto s))

/-- `CALL cc,a16` (R387): taken as CALL; not taken, nothing is written and SP is unchanged. -/
def Obligations.ConditionalCall : Prop :=
  ∀ (cc : Cond) (a : Word) (s : State),
    encode (Instr.callCC cc a) = [6#3 ++ cc.code ++ 4#3, lo a, hi a] ∧
    ∃ t, exec (Instr.callCC cc a) s = .next t ∧
      (cond s cc = true → t.sp = s.sp - 2 ∧
        t.read (s.sp - 1) = hi (after s 3) ∧ t.read (s.sp - 2) = lo (after s 3) ∧
        Frame s t [] [] true [s.sp - 1, s.sp - 2] ∧ Ends s t a 24 (auto s)) ∧
      (cond s cc = false → Frame s t [] [] false [] ∧ Ends s t (after s 3) 12 (auto s))

/-- `RET`, `RETI` (R388, R390) and `RET cc` (R389): PC is popped; RETI sets IME with no delay. -/
def Obligations.ReturnPopsProgramCounter : Prop :=
  ∀ (cc : Cond) (s : State),
    (encode .ret = [0xC9#8] ∧
      ∃ t, exec .ret s = .next t ∧ t.sp = s.sp + 2 ∧ Frame s t [] [] true [] ∧
        Ends s t (pair (s.read (s.sp + 1)) (s.read s.sp)) 16 (auto s)) ∧
    (encode .reti = [0xD9#8] ∧
      ∃ t, exec .reti s = .next t ∧ t.sp = s.sp + 2 ∧ Frame s t [] [] true [] ∧
        Ends s t (pair (s.read (s.sp + 1)) (s.read s.sp)) 16 .set) ∧
    (encode (Instr.retCC cc) = [6#3 ++ cc.code ++ 0#3] ∧
      ∃ t, exec (Instr.retCC cc) s = .next t ∧
        (cond s cc = true → t.sp = s.sp + 2 ∧ Frame s t [] [] true [] ∧
          Ends s t (pair (s.read (s.sp + 1)) (s.read s.sp)) 20 (auto s)) ∧
        (cond s cc = false → Frame s t [] [] false [] ∧ Ends s t (after s 1) 8 (auto s)))

/-! ### System instructions -/

/-- `NOP`, `DI`, `EI` (R410, R413, R414). -/
def Obligations.NopAndInterruptEnable : Prop :=
  ∀ s : State,
    (encode .nop = [0x00#8] ∧
      ∃ t, exec .nop s = .next t ∧ Frame s t [] [] false [] ∧ Ends s t (after s 1) 4 (auto s)) ∧
    (encode .di = [0xF3#8] ∧
      ∃ t, exec .di s = .next t ∧ Frame s t [] [] false [] ∧ Ends s t (after s 1) 4 .unset) ∧
    (encode .ei = [0xFB#8] ∧
      ∃ t, exec .ei s = .next t ∧ Frame s t [] [] false [] ∧
        Ends s t (after s 1) 4 (if s.ime = .unset then .scheduled else .set))

/-- `HALT` and `STOP` (R411, R412). HALT halts, or sets the halt-bug latch; STOP stops, whatever its second byte. -/
def Obligations.HaltAndStop : Prop :=
  ∀ (n : Byte) (s : State),
    (encode .halt = [0x76#8] ∧
      ∃ t, exec .halt s = .next t ∧ Frame s t [] [] false [] ∧
        t.pc = after s 1 ∧ t.cost = 4 ∧ t.ime = auto s ∧ t.stopped = s.stopped ∧ t.locked = s.locked ∧
        (auto s ≠ .set ∧ pend s ≠ 0#8 → t.haltbug = true ∧ t.halted = s.halted) ∧
        (¬(auto s ≠ .set ∧ pend s ≠ 0#8) → t.haltbug = false ∧ t.halted = true)) ∧
    (encode (.stop n) = [0x10#8, n] ∧
      ∃ t, exec (.stop n) s = .next t ∧ Frame s t [] [] false [] ∧
        t.pc = after s 2 ∧ t.cost = 4 ∧ t.ime = auto s ∧ t.haltbug = false ∧ t.halted = s.halted ∧ t.locked = s.locked ∧
        t.stopped = true)

/-- An undefined opcode (R415), each of the 11: PC unchanged, no cost, no effect but the automatic IME transition and the cleared latch;
under Lock, and only there, the core locks. -/
def Obligations.UndefinedOpcodeIsZeroLengthNoOp : Prop :=
  ∀ (i : Instr) (s : State), i ∈ Instr.undefined →
    ∃ t, exec i s = .next t ∧ Frame s t [] [] false [] ∧
      t.pc = s.pc ∧ t.cost = 0 ∧ t.ime = auto s ∧ t.haltbug = false ∧ t.halted = s.halted ∧ t.stopped = s.stopped ∧
      t.locked = (s.locked || decide (s.cfg.undefPolicy = .lock))
end

