-- ==== Sys2Proof/Laws/Flags.lean ====
section
/-! SUPPORT. Laws/Flags.lean: bits of F under single-bit writes, and byte halves under pairing. -/

namespace Sys2Proof.Machine

theorem getLsbD_one_shiftLeft (i j : Nat) (hj : j < 8) : (1#8 <<< i).getLsbD j = decide (j = i) := by
  by_cases lt : j < i
  · simp [BitVec.getLsbD_shiftLeft, lt]; omega
  · by_cases e : j = i
    · subst e; simp [hj]
    · have : j - i ≠ 0 := by omega
      simp [BitVec.getLsbD_shiftLeft, e, this]

/-- A single-bit write sets that bit and no other. -/
theorem getLsbD_putBit (v : Byte) (i j : Nat) (b : Bool) (hj : j < 8) :
    (putBit v i b).getLsbD j = if j = i then b else v.getLsbD j := by
  unfold putBit
  cases b
  · rw [if_neg (by simp), BitVec.getLsbD_and, BitVec.getLsbD_not, getLsbD_one_shiftLeft i j hj]
    by_cases e : j = i <;> simp [e, hj]
  · rw [if_pos rfl, BitVec.getLsbD_or, getLsbD_one_shiftLeft i j hj]
    by_cases e : j = i <;> simp [e]

/-- A flag bit after a merged write. -/
theorem getLsbD_mergeFlag (i j : Nat) (v : Option Bool) (f : Byte) (hj : j < 8) :
    (mergeFlag i v f).getLsbD j = if j = i then v.getD (f.getLsbD j) else f.getLsbD j := by
  cases v with
  | none => simp [mergeFlag]
  | some b => simpa [mergeFlag] using getLsbD_putBit f i j b hj

@[simp] theorem lo_pair (h l : Byte) : lo (pair h l) = l := by
  apply BitVec.eq_of_getLsbD_eq; intro i hi
  simp only [lo, pair, BitVec.getLsbD_extractLsb', BitVec.getLsbD_or, BitVec.getLsbD_shiftLeft, BitVec.getLsbD_setWidth]
  simp [hi]; omega

@[simp] theorem hi_pair (h l : Byte) : hi (pair h l) = h := by
  apply BitVec.eq_of_getLsbD_eq; intro i hi
  simp only [Machine.hi, pair, BitVec.getLsbD_extractLsb', BitVec.getLsbD_or, BitVec.getLsbD_shiftLeft, BitVec.getLsbD_setWidth]
  have : 8 + i < 16 := by omega
  have : i < 16 := by omega
  simp [*]

@[simp] theorem pair_hi_lo (w : Word) : pair (hi w) (lo w) = w := by
  apply BitVec.eq_of_getLsbD_eq; intro i h
  simp only [Machine.hi, lo, pair, BitVec.getLsbD_extractLsb', BitVec.getLsbD_or, BitVec.getLsbD_shiftLeft, BitVec.getLsbD_setWidth]
  by_cases h8 : i < 8
  · simp [h8, h]
  · have : i - 8 < 8 := by omega
    have e : 8 + (i - 8) = i := by omega
    have : i - 8 < 16 := by omega
    simp [*]

end Sys2Proof.Machine
end

