-- ==== Sys2Proof/Laws/Memory.lean ====
section
/-! SUPPORT. Laws/Memory.lean: what reads, writes and edit lists do, and that every memory operation keeps the canonical form. -/

namespace Sys2Proof.Machine.Memory

/-! ### Reads after writes -/

@[simp] theorem get_nil (k : Nat) : get [] k = unlisted := rfl

theorem get_cons (k' : Nat) (v : Byte) (rest : Memory) (k : Nat) :
    get ((k', v) :: rest) k = if k' = k then v else get rest k := rfl

theorem get_erase (m : Memory) (k j : Nat) : (erase m k).get j = if j = k then unlisted else m.get j := by
  induction m with
  | nil => simp [erase]
  | cons cell rest ih =>
    obtain ⟨k', v⟩ := cell
    by_cases hk : k' = k
    · subst hk
      by_cases hj : j = k'
      · simpa [erase, hj] using ih
      · simp [erase, get_cons, ih, hj, Ne.symm hj]
    · by_cases hj : k' = j
      · subst hj; simp [erase, get_cons, hk]
      · simp [erase, get_cons, hk, hj, ih]

theorem get_place (m : Memory) (k j : Nat) (v : Byte) (absent : ∀ c ∈ m, c.1 ≠ k) :
    (place m k v).get j = if j = k then v else m.get j := by
  induction m with
  | nil =>
    by_cases h : j = k
    · simp [place, get_cons, h]
    · simp [place, get_cons, h, Ne.symm h]
  | cons cell rest ih =>
    obtain ⟨k', v'⟩ := cell
    have hk' : k' ≠ k := absent (k', v') (by simp)
    have ih' := ih (fun c hc => absent c (by simp [hc]))
    by_cases hlt : k < k'
    · by_cases h : j = k
      · simp [place, hlt, get_cons, h]
      · simp [place, hlt, get_cons, h, Ne.symm h]
    · by_cases h : k' = j
      · subst h; simp [place, hlt, get_cons, hk']
      · simp [place, hlt, get_cons, h, ih']

theorem absent_erase (m : Memory) (k : Nat) : ∀ c ∈ erase m k, c.1 ≠ k := by
  induction m with
  | nil => simp [erase]
  | cons cell rest ih =>
    obtain ⟨k', v⟩ := cell
    by_cases h : k' = k
    · simpa [erase, h] using ih
    · intro c hc
      simp only [erase, h, if_false, List.mem_cons] at hc
      rcases hc with rfl | hc
      · exact h
      · exact ih c hc

/-- A read after one write: the written byte at its address, every other address as before. -/
theorem read_write (m : Memory) (a b : Word) (v : Byte) : (m.write a v).read b = if b = a then v else m.read b := by
  have inj : b.toNat = a.toNat ↔ b = a := BitVec.toNat_inj
  unfold write read
  by_cases hv : v = unlisted
  · rw [if_pos hv, get_erase]; simp only [inj, hv]
  · rw [if_neg hv, get_place _ _ _ _ (absent_erase m a.toNat), get_erase]
    by_cases h : b = a <;> simp [inj, h]

@[simp] theorem read_write_same (m : Memory) (a : Word) (v : Byte) : (m.write a v).read a = v := by simp [read_write]

theorem read_write_ne (m : Memory) {a b : Word} (v : Byte) (h : b ≠ a) : (m.write a v).read b = m.read b := by
  simp [read_write, h]

@[simp] theorem writeAll_nil (m : Memory) : m.writeAll [] = m := rfl

@[simp] theorem writeAll_cons (m : Memory) (e : Word × Byte) (rest : List (Word × Byte)) :
    m.writeAll (e :: rest) = (m.write e.1 e.2).writeAll rest := rfl

theorem writeAll_append (m : Memory) (l l' : List (Word × Byte)) : m.writeAll (l ++ l') = (m.writeAll l).writeAll l' := by
  induction l generalizing m with
  | nil => rfl
  | cons e rest ih => simpa using ih _

/-- An edit list leaves every address it does not name. -/
theorem read_writeAll_of_notMem (m : Memory) (l : List (Word × Byte)) (a : Word) (h : ∀ e ∈ l, e.1 ≠ a) :
    (m.writeAll l).read a = m.read a := by
  induction l generalizing m with
  | nil => rfl
  | cons e rest ih =>
    rw [writeAll_cons, ih _ (fun x hx => h x (by simp [hx])), read_write_ne _ _ (Ne.symm (h e (by simp)))]

/-! ### The canonical form -/

@[simp] theorem wfFrom_nil (low : Nat) : wfFrom low [] = true := rfl

@[simp] theorem wfFrom_cons (low k : Nat) (v : Byte) (rest : Memory) :
    wfFrom low ((k, v) :: rest) = true ↔ low ≤ k ∧ k < 65536 ∧ v ≠ unlisted ∧ wfFrom (k + 1) rest = true := by
  simp [wfFrom, and_assoc]

theorem wfFrom_weaken {m : Memory} {low low' : Nat} (h : low ≤ low') (hm : wfFrom low' m = true) : wfFrom low m = true := by
  cases m with
  | nil => rfl
  | cons cell rest => obtain ⟨k, v⟩ := cell; simp only [wfFrom_cons] at hm ⊢; exact ⟨by omega, hm.2⟩

theorem wfFrom_erase {m : Memory} {low : Nat} (k : Nat) (hm : wfFrom low m = true) : wfFrom low (erase m k) = true := by
  induction m generalizing low with
  | nil => rfl
  | cons cell rest ih =>
    obtain ⟨k', v⟩ := cell
    simp only [wfFrom_cons] at hm
    by_cases h : k' = k
    · simpa [erase, h] using wfFrom_weaken (by omega) (ih hm.2.2.2)
    · simp only [erase, h, if_false, wfFrom_cons]
      exact ⟨hm.1, hm.2.1, hm.2.2.1, ih hm.2.2.2⟩

theorem wfFrom_place {m : Memory} {low k : Nat} {v : Byte} (hm : wfFrom low m = true) (absent : ∀ c ∈ m, c.1 ≠ k)
    (hlow : low ≤ k) (hk : k < 65536) (hv : v ≠ unlisted) : wfFrom low (place m k v) = true := by
  induction m generalizing low with
  | nil => simp [place, hlow, hk, hv]
  | cons cell rest ih =>
    obtain ⟨k', v'⟩ := cell
    have hne : k' ≠ k := absent (k', v') (by simp)
    simp only [wfFrom_cons] at hm
    by_cases hlt : k < k'
    · simp only [place, hlt, if_true, wfFrom_cons]
      exact ⟨hlow, hk, hv, by omega, hm.2.1, hm.2.2.1, hm.2.2.2⟩
    · simp only [place, hlt, if_false, wfFrom_cons]
      exact ⟨hm.1, hm.2.1, hm.2.2.1, ih hm.2.2.2 (fun c hc => absent c (by simp [hc])) (by omega)⟩

/-- One write keeps the canonical form. -/
theorem wf_write {m : Memory} (a : Word) (v : Byte) (hm : m.wf = true) : (m.write a v).wf = true := by
  unfold write
  by_cases hv : v = unlisted
  · rw [if_pos hv]; exact wfFrom_erase _ hm
  · rw [if_neg hv]
    exact wfFrom_place (wfFrom_erase _ hm) (absent_erase m a.toNat) (Nat.zero_le _) a.isLt hv

/-- An edit list keeps the canonical form. -/
theorem wf_writeAll {m : Memory} (l : List (Word × Byte)) (hm : m.wf = true) : (m.writeAll l).wf = true := by
  induction l generalizing m with
  | nil => exact hm
  | cons e rest ih => exact ih (wf_write _ _ hm)

theorem wf_nil : wf [] = true := rfl

end Sys2Proof.Machine.Memory
end

