-- ==== Sys2Proof/Laws/State.lean ====
section
/-! SUPPORT. Laws/State.lean: what each update of the state leaves, one lemma per field. -/

namespace Sys2Proof.Machine

/-! ### One register write -/

@[simp] theorem reg_setReg (s : State) (r q : Reg) (v : Byte) : (s.setReg r v).reg q = if q = r then v else s.reg q := by
  cases r <;> cases q <;> rfl

@[simp] theorem setReg_f (s : State) (r : Reg) (v : Byte) : (s.setReg r v).f = s.f := by cases r <;> rfl
@[simp] theorem setReg_pc (s : State) (r : Reg) (v : Byte) : (s.setReg r v).pc = s.pc := by cases r <;> rfl
@[simp] theorem setReg_sp (s : State) (r : Reg) (v : Byte) : (s.setReg r v).sp = s.sp := by cases r <;> rfl
@[simp] theorem setReg_ime (s : State) (r : Reg) (v : Byte) : (s.setReg r v).ime = s.ime := by cases r <;> rfl
@[simp] theorem setReg_halted (s : State) (r : Reg) (v : Byte) : (s.setReg r v).halted = s.halted := by cases r <;> rfl
@[simp] theorem setReg_stopped (s : State) (r : Reg) (v : Byte) : (s.setReg r v).stopped = s.stopped := by cases r <;> rfl
@[simp] theorem setReg_locked (s : State) (r : Reg) (v : Byte) : (s.setReg r v).locked = s.locked := by cases r <;> rfl
@[simp] theorem setReg_haltbug (s : State) (r : Reg) (v : Byte) : (s.setReg r v).haltbug = s.haltbug := by cases r <;> rfl
@[simp] theorem setReg_firstStep (s : State) (r : Reg) (v : Byte) : (s.setReg r v).firstStep = s.firstStep := by cases r <;> rfl
@[simp] theorem setReg_mem (s : State) (r : Reg) (v : Byte) : (s.setReg r v).mem = s.mem := by cases r <;> rfl
@[simp] theorem setReg_cost (s : State) (r : Reg) (v : Byte) : (s.setReg r v).cost = s.cost := by cases r <;> rfl
@[simp] theorem setReg_cfg (s : State) (r : Reg) (v : Byte) : (s.setReg r v).cfg = s.cfg := by cases r <;> rfl

/-! ### A list of register writes -/

@[simp] theorem writeRegs_nil (s : State) : s.writeRegs [] = s := rfl

@[simp] theorem writeRegs_cons (s : State) (w : Reg × Byte) (rest : List (Reg × Byte)) :
    s.writeRegs (w :: rest) = (s.setReg w.1 w.2).writeRegs rest := rfl

@[simp] theorem writeRegs_f (s : State) (l : List (Reg × Byte)) : (s.writeRegs l).f = s.f := by
  induction l generalizing s with
  | nil => rfl
  | cons w rest ih => simp [ih]

@[simp] theorem writeRegs_pc (s : State) (l : List (Reg × Byte)) : (s.writeRegs l).pc = s.pc := by
  induction l generalizing s with
  | nil => rfl
  | cons w rest ih => simp [ih]

@[simp] theorem writeRegs_sp (s : State) (l : List (Reg × Byte)) : (s.writeRegs l).sp = s.sp := by
  induction l generalizing s with
  | nil => rfl
  | cons w rest ih => simp [ih]

@[simp] theorem writeRegs_ime (s : State) (l : List (Reg × Byte)) : (s.writeRegs l).ime = s.ime := by
  induction l generalizing s with
  | nil => rfl
  | cons w rest ih => simp [ih]

@[simp] theorem writeRegs_halted (s : State) (l : List (Reg × Byte)) : (s.writeRegs l).halted = s.halted := by
  induction l generalizing s with
  | nil => rfl
  | cons w rest ih => simp [ih]

@[simp] theorem writeRegs_stopped (s : State) (l : List (Reg × Byte)) : (s.writeRegs l).stopped = s.stopped := by
  induction l generalizing s with
  | nil => rfl
  | cons w rest ih => simp [ih]

@[simp] theorem writeRegs_locked (s : State) (l : List (Reg × Byte)) : (s.writeRegs l).locked = s.locked := by
  induction l generalizing s with
  | nil => rfl
  | cons w rest ih => simp [ih]

@[simp] theorem writeRegs_haltbug (s : State) (l : List (Reg × Byte)) : (s.writeRegs l).haltbug = s.haltbug := by
  induction l generalizing s with
  | nil => rfl
  | cons w rest ih => simp [ih]

@[simp] theorem writeRegs_firstStep (s : State) (l : List (Reg × Byte)) : (s.writeRegs l).firstStep = s.firstStep := by
  induction l generalizing s with
  | nil => rfl
  | cons w rest ih => simp [ih]

@[simp] theorem writeRegs_mem (s : State) (l : List (Reg × Byte)) : (s.writeRegs l).mem = s.mem := by
  induction l generalizing s with
  | nil => rfl
  | cons w rest ih => simp [ih]

@[simp] theorem writeRegs_cost (s : State) (l : List (Reg × Byte)) : (s.writeRegs l).cost = s.cost := by
  induction l generalizing s with
  | nil => rfl
  | cons w rest ih => simp [ih]

@[simp] theorem writeRegs_cfg (s : State) (l : List (Reg × Byte)) : (s.writeRegs l).cfg = s.cfg := by
  induction l generalizing s with
  | nil => rfl
  | cons w rest ih => simp [ih]

/-- A register that the list does not name keeps its value. -/
theorem reg_writeRegs_of_notMem (s : State) (l : List (Reg × Byte)) (q : Reg) (h : ∀ w ∈ l, w.1 ≠ q) :
    (s.writeRegs l).reg q = s.reg q := by
  induction l generalizing s with
  | nil => rfl
  | cons w rest ih =>
    rw [writeRegs_cons, ih _ (fun x hx => h x (by simp [hx])), reg_setReg, if_neg (Ne.symm (h w (by simp)))]

/-! ### The registers by name, as `reg` sees them -/

theorem b_eq_reg (s : State) : s.b = s.reg .b := rfl
theorem c_eq_reg (s : State) : s.c = s.reg .c := rfl
theorem d_eq_reg (s : State) : s.d = s.reg .d := rfl
theorem e_eq_reg (s : State) : s.e = s.reg .e := rfl
theorem h_eq_reg (s : State) : s.h = s.reg .h := rfl
theorem l_eq_reg (s : State) : s.l = s.reg .l := rfl
theorem a_eq_reg (s : State) : s.a = s.reg .a := rfl

/-! ### Bytes put in memory by the host -/

@[simp] theorem withBytes_a (s : State) (start : Word) (l : List Byte) : (s.withBytes start l).a = s.a := by
  induction l generalizing s start with
  | nil => rfl
  | cons v rest ih => simp [State.withBytes, ih]

@[simp] theorem withBytes_f (s : State) (start : Word) (l : List Byte) : (s.withBytes start l).f = s.f := by
  induction l generalizing s start with
  | nil => rfl
  | cons v rest ih => simp [State.withBytes, ih]

@[simp] theorem withBytes_b (s : State) (start : Word) (l : List Byte) : (s.withBytes start l).b = s.b := by
  induction l generalizing s start with
  | nil => rfl
  | cons v rest ih => simp [State.withBytes, ih]

@[simp] theorem withBytes_c (s : State) (start : Word) (l : List Byte) : (s.withBytes start l).c = s.c := by
  induction l generalizing s start with
  | nil => rfl
  | cons v rest ih => simp [State.withBytes, ih]

@[simp] theorem withBytes_d (s : State) (start : Word) (l : List Byte) : (s.withBytes start l).d = s.d := by
  induction l generalizing s start with
  | nil => rfl
  | cons v rest ih => simp [State.withBytes, ih]

@[simp] theorem withBytes_e (s : State) (start : Word) (l : List Byte) : (s.withBytes start l).e = s.e := by
  induction l generalizing s start with
  | nil => rfl
  | cons v rest ih => simp [State.withBytes, ih]

@[simp] theorem withBytes_h (s : State) (start : Word) (l : List Byte) : (s.withBytes start l).h = s.h := by
  induction l generalizing s start with
  | nil => rfl
  | cons v rest ih => simp [State.withBytes, ih]

@[simp] theorem withBytes_l (s : State) (start : Word) (l : List Byte) : (s.withBytes start l).l = s.l := by
  induction l generalizing s start with
  | nil => rfl
  | cons v rest ih => simp [State.withBytes, ih]

@[simp] theorem withBytes_pc (s : State) (start : Word) (l : List Byte) : (s.withBytes start l).pc = s.pc := by
  induction l generalizing s start with
  | nil => rfl
  | cons v rest ih => simp [State.withBytes, ih]

@[simp] theorem withBytes_sp (s : State) (start : Word) (l : List Byte) : (s.withBytes start l).sp = s.sp := by
  induction l generalizing s start with
  | nil => rfl
  | cons v rest ih => simp [State.withBytes, ih]

@[simp] theorem withBytes_ime (s : State) (start : Word) (l : List Byte) : (s.withBytes start l).ime = s.ime := by
  induction l generalizing s start with
  | nil => rfl
  | cons v rest ih => simp [State.withBytes, ih]

@[simp] theorem withBytes_halted (s : State) (start : Word) (l : List Byte) : (s.withBytes start l).halted = s.halted := by
  induction l generalizing s start with
  | nil => rfl
  | cons v rest ih => simp [State.withBytes, ih]

@[simp] theorem withBytes_stopped (s : State) (start : Word) (l : List Byte) : (s.withBytes start l).stopped = s.stopped := by
  induction l generalizing s start with
  | nil => rfl
  | cons v rest ih => simp [State.withBytes, ih]

@[simp] theorem withBytes_locked (s : State) (start : Word) (l : List Byte) : (s.withBytes start l).locked = s.locked := by
  induction l generalizing s start with
  | nil => rfl
  | cons v rest ih => simp [State.withBytes, ih]

@[simp] theorem withBytes_haltbug (s : State) (start : Word) (l : List Byte) : (s.withBytes start l).haltbug = s.haltbug := by
  induction l generalizing s start with
  | nil => rfl
  | cons v rest ih => simp [State.withBytes, ih]

@[simp] theorem withBytes_firstStep (s : State) (start : Word) (l : List Byte) : (s.withBytes start l).firstStep = s.firstStep := by
  induction l generalizing s start with
  | nil => rfl
  | cons v rest ih => simp [State.withBytes, ih]

@[simp] theorem withBytes_cost (s : State) (start : Word) (l : List Byte) : (s.withBytes start l).cost = s.cost := by
  induction l generalizing s start with
  | nil => rfl
  | cons v rest ih => simp [State.withBytes, ih]

@[simp] theorem withBytes_cfg (s : State) (start : Word) (l : List Byte) : (s.withBytes start l).cfg = s.cfg := by
  induction l generalizing s start with
  | nil => rfl
  | cons v rest ih => simp [State.withBytes, ih]

/-- Host bytes keep the canonical form of memory. -/
theorem wf_withBytes {s : State} (start : Word) (l : List Byte) (h : s.mem.wf = true) : (s.withBytes start l).mem.wf = true := by
  induction l generalizing s start with
  | nil => exact h
  | cons v rest ih => exact ih _ (Memory.wf_write _ _ h)

end Sys2Proof.Machine
end

