-- ==== Sys2Proof/Laws/Ops.lean ====
section
/-! SUPPORT. Laws/Ops.lean: everything that applying a State-Delta and taking an interrupt can do, said once. -/

namespace Sys2Proof.Machine

/-- A meaning that ends in `commit` answers exactly the applied delta. -/
@[simp] theorem commit_eq_next (d : Delta) (s t : State) : commit d s = .next t ↔ applyDelta d s = t := by
  simp [commit]

theorem commit_completes (d : Delta) (s : State) : ∃ t, commit d s = .next t := ⟨applyDelta d s, rfl⟩

/-! ### The applied delta, field by field -/

@[simp] theorem applyDelta_pc (d : Delta) (s : State) : (applyDelta d s).pc = nextPc d s := rfl
@[simp] theorem applyDelta_sp (d : Delta) (s : State) : (applyDelta d s).sp = d.sp.getD s.sp := rfl
@[simp] theorem applyDelta_ime (d : Delta) (s : State) : (applyDelta d s).ime = nextIme d.ime s.ime := rfl
@[simp] theorem applyDelta_mem (d : Delta) (s : State) : (applyDelta d s).mem = s.mem.writeAll d.mem := rfl
@[simp] theorem applyDelta_halted (d : Delta) (s : State) : (applyDelta d s).halted = (s.halted || d.halt) := rfl
@[simp] theorem applyDelta_stopped (d : Delta) (s : State) : (applyDelta d s).stopped = (s.stopped || d.stop) := rfl
@[simp] theorem applyDelta_locked (d : Delta) (s : State) : (applyDelta d s).locked = (s.locked || d.lock) := rfl
@[simp] theorem applyDelta_haltbug (d : Delta) (s : State) : (applyDelta d s).haltbug = d.haltbug := rfl
@[simp] theorem applyDelta_cost (d : Delta) (s : State) : (applyDelta d s).cost = d.cost := rfl
@[simp] theorem applyDelta_firstStep (d : Delta) (s : State) : (applyDelta d s).firstStep = s.firstStep := writeRegs_firstStep s d.regs
@[simp] theorem applyDelta_cfg (d : Delta) (s : State) : (applyDelta d s).cfg = s.cfg := writeRegs_cfg s d.regs
@[simp] theorem applyDelta_f (d : Delta) (s : State) : (applyDelta d s).f = nextF d s.f := rfl

@[simp] theorem applyDelta_reg (d : Delta) (s : State) (r : Reg) : (applyDelta d s).reg r = (s.writeRegs d.regs).reg r := by
  cases r <;> rfl

@[simp] theorem applyDelta_read (d : Delta) (s : State) (a : Word) : (applyDelta d s).read a = (s.mem.writeAll d.mem).read a := rfl

/-- A bit of the new F: the flag write that names it, or the bit of F before the flag writes. -/
theorem nextF_bit (d : Delta) (f : Byte) (i : Nat) (hi : i < 8) :
    (nextF d f).getLsbD i =
      if i = 7 then d.flagZ.getD ((wholeF d f).getLsbD 7)
      else if i = 6 then d.flagN.getD ((wholeF d f).getLsbD 6)
      else if i = 5 then d.flagH.getD ((wholeF d f).getLsbD 5)
      else if i = 4 then d.flagC.getD ((wholeF d f).getLsbD 4)
      else (wholeF d f).getLsbD i := by
  unfold nextF
  rw [getLsbD_mergeFlag _ _ _ _ hi, getLsbD_mergeFlag _ _ _ _ hi, getLsbD_mergeFlag _ _ _ _ hi, getLsbD_mergeFlag _ _ _ _ hi]
  by_cases h7 : i = 7
  · subst h7; rfl
  by_cases h6 : i = 6
  · subst h6; rfl
  by_cases h5 : i = 5
  · subst h5; rfl
  by_cases h4 : i = 4
  · subst h4; rfl
  simp only [h7, h6, h5, h4, if_false]

/-- The flag Z after a delta that does not write F as a whole: its write, or its old value (R36). -/
theorem applyDelta_flag_z (d : Delta) (s : State) (hf : d.f = none) :
    (applyDelta d s).flags.z = d.flagZ.getD s.flags.z := by
  have h := nextF_bit d s.f 7 (by omega)
  rw [wholeF, hf] at h
  exact h

/-- The flag N after a delta that does not write F as a whole: its write, or its old value (R36). -/
theorem applyDelta_flag_n (d : Delta) (s : State) (hf : d.f = none) :
    (applyDelta d s).flags.n = d.flagN.getD s.flags.n := by
  have h := nextF_bit d s.f 6 (by omega)
  rw [wholeF, hf] at h
  exact h

/-- The flag H after a delta that does not write F as a whole: its write, or its old value (R36). -/
theorem applyDelta_flag_h (d : Delta) (s : State) (hf : d.f = none) :
    (applyDelta d s).flags.h = d.flagH.getD s.flags.h := by
  have h := nextF_bit d s.f 5 (by omega)
  rw [wholeF, hf] at h
  exact h

/-- The flag C after a delta that does not write F as a whole: its write, or its old value (R36). -/
theorem applyDelta_flag_c (d : Delta) (s : State) (hf : d.f = none) :
    (applyDelta d s).flags.c = d.flagC.getD s.flags.c := by
  have h := nextF_bit d s.f 4 (by omega)
  rw [wholeF, hf] at h
  exact h

/-- A byte has a zero low nibble when its bits 3..0 are clear. -/
theorem low_nibble_eq_zero_iff (v : Byte) :
    v &&& 0x0F#8 = 0#8 ↔ v.getLsbD 0 = false ∧ v.getLsbD 1 = false ∧ v.getLsbD 2 = false ∧ v.getLsbD 3 = false := by
  revert v; decide

/-- A delta keeps F's low nibble 0 (R34). -/
theorem nextF_low (d : Delta) (f : Byte) (h : f &&& 0x0F#8 = 0#8) : nextF d f &&& 0x0F#8 = 0#8 := by
  have key : wholeF d f &&& 0x0F#8 = 0#8 := by
    unfold wholeF
    cases d.f with
    | none => exact h
    | some v =>
      show (v &&& 0xF0#8) &&& 0x0F#8 = 0#8
      rw [BitVec.and_assoc]; simp
  rw [low_nibble_eq_zero_iff] at key ⊢
  rw [nextF_bit d f 0 (by omega), nextF_bit d f 1 (by omega), nextF_bit d f 2 (by omega), nextF_bit d f 3 (by omega)]
  exact key

/-- A delta keeps the canonical form of memory. -/
theorem wf_applyDelta (d : Delta) {s : State} (h : s.mem.wf = true) : (applyDelta d s).mem.wf = true :=
  Memory.wf_writeAll _ h

/-! ### Pairs -/

@[simp] theorem lo_hl (s : State) : lo s.hl = s.l := lo_pair _ _
@[simp] theorem hi_hl (s : State) : hi s.hl = s.h := hi_pair _ _

/-! ### The interrupt entry -/

@[simp] theorem takeInterrupt_pc (s : State) : (takeInterrupt s).pc = interruptVector (lowestPending s.pending) := rfl
@[simp] theorem takeInterrupt_sp (s : State) : (takeInterrupt s).sp = s.sp - 2 := rfl
@[simp] theorem takeInterrupt_ime (s : State) : (takeInterrupt s).ime = .unset := rfl
@[simp] theorem takeInterrupt_halted (s : State) : (takeInterrupt s).halted = false := rfl
@[simp] theorem takeInterrupt_stopped (s : State) : (takeInterrupt s).stopped = s.stopped := rfl
@[simp] theorem takeInterrupt_locked (s : State) : (takeInterrupt s).locked = s.locked := rfl
@[simp] theorem takeInterrupt_haltbug (s : State) : (takeInterrupt s).haltbug = s.haltbug := rfl
@[simp] theorem takeInterrupt_firstStep (s : State) : (takeInterrupt s).firstStep = s.firstStep := rfl
@[simp] theorem takeInterrupt_f (s : State) : (takeInterrupt s).f = s.f := rfl
@[simp] theorem takeInterrupt_cfg (s : State) : (takeInterrupt s).cfg = s.cfg := rfl
@[simp] theorem takeInterrupt_cost (s : State) : (takeInterrupt s).cost = 20 := rfl
@[simp] theorem takeInterrupt_mem (s : State) : (takeInterrupt s).mem = s.mem.writeAll (dispatchEdits (lowestPending s.pending) s) := rfl
@[simp] theorem takeInterrupt_reg (s : State) (r : Reg) : (takeInterrupt s).reg r = s.reg r := by cases r <;> rfl

/-- The lowest pending source is one of the five, is pending, and no lower one is (R437). -/
theorem lowestPending_spec (p : Byte) (h : p &&& 0x1F#8 ≠ 0#8) :
    lowestPending p < 5 ∧ p.getLsbD (lowestPending p) = true ∧ ∀ m, m < lowestPending p → p.getLsbD m = false := by
  have key : ∀ q : Byte, q &&& 0x1F#8 ≠ 0#8 →
      lowestPending q < 5 ∧ q.getLsbD (lowestPending q) = true ∧
        ∀ m ∈ List.range (lowestPending q), q.getLsbD m = false := by decide
  obtain ⟨h1, h2, h3⟩ := key p h
  exact ⟨h1, h2, fun m hm => h3 m (List.mem_range.mpr hm)⟩

/-- The pending set has bits 4..0 only. -/
theorem pending_and_mask (s : State) : s.pending &&& 0x1F#8 = s.pending := by
  simp [State.pending, BitVec.and_assoc]

end Sys2Proof.Machine
end

