-- ==== Sys2Proof/Laws/Exec.lean ====
section
/-! SUPPORT. Laws/Exec.lean: what an instruction and a step can do at all. Every instruction answers the application of one State-Delta,
and a step is one of five things. -/

namespace Sys2Proof.Machine

/-! ### The conditional transfers -/

theorem jumpIf_eq (cc : Cond) (a : Word) (s : State) :
    jumpIf cc a s = if s.cond cc then jumpTo 3 16 a s else notTaken 3 12 s := rfl

theorem jumpRelativeIf_eq (cc : Cond) (e : Byte) (s : State) :
    jumpRelativeIf cc e s = if s.cond cc then jumpTo 2 12 (relativeTarget e s) s else notTaken 2 8 s := rfl

theorem callIf_eq (cc : Cond) (a : Word) (s : State) :
    callIf cc a s = if s.cond cc then callTo 3 24 a s else notTaken 3 12 s := rfl

theorem returnIf_eq (cc : Cond) (s : State) :
    returnIf cc s = if s.cond cc then returnFromCall 20 s else notTaken 1 8 s := rfl

theorem ite_applies_delta {c : Bool} {o p : Out} {s : State} (ho : ∃ d, o = .next (applyDelta d s))
    (hp : ∃ d, p = .next (applyDelta d s)) : ∃ d, (if c then o else p) = .next (applyDelta d s) := by
  cases c
  · exact hp
  · exact ho

theorem extended_applies_delta (b1 : Byte) (s : State) : ∃ d, extended b1 s = .next (applyDelta d s) := by
  unfold extended
  simp only []
  split
  · exact ⟨_, rfl⟩
  · split
    · exact ⟨_, rfl⟩
    · split <;> exact ⟨_, rfl⟩

/-- Every instruction of every state answers the application of one State-Delta (R45, R136, R430). -/
theorem exec_applies_delta (i : Instr) (s : State) : ∃ d, exec i s = .next (applyDelta d s) := by
  cases i
  case prefixCB b1 => exact extended_applies_delta b1 s
  all_goals first
    | exact ⟨_, rfl⟩
    | exact ite_applies_delta ⟨_, rfl⟩ ⟨_, rfl⟩

/-! ### One step -/

/-- What a step can do (R135): nothing (locked or stopped), idle, dispatch, or run one instruction, the last two perhaps after a halt
wake. -/
theorem step_cases {s t : State} (h : step s = .next t) :
    ((s.locked = true ∨ s.stopped = true) ∧ t = noStep s) ∨
    (s.locked = false ∧ s.stopped = false ∧
      ((s.halted = true ∧ s.pending = 0#8 ∧ t = idleStep s) ∨
       ∃ wake, (s.halted = true ∧ s.pending ≠ 0#8 ∧ wake = 4 ∨ s.halted = false ∧ wake = 0) ∧
         ((s.ime = .set ∧ s.pending ≠ 0#8 ∧ t = addWake wake (takeInterrupt (wakeUp s))) ∨
          (dispatches s = false ∧ ∃ d,
            exec (decodeBytes s.fetchOpcode s.fetchB1 s.fetchB2) (wakeUp s) = .next (applyDelta d (wakeUp s)) ∧
            t = addWake wake (endInstructionStep (wakeUp s) (applyDelta d (wakeUp s))))))) := by
  have active : ∀ wake, activeStep wake (wakeUp s) = .next t →
      ((s.ime = .set ∧ s.pending ≠ 0#8 ∧ t = addWake wake (takeInterrupt (wakeUp s))) ∨
        (dispatches s = false ∧ ∃ d,
          exec (decodeBytes s.fetchOpcode s.fetchB1 s.fetchB2) (wakeUp s) = .next (applyDelta d (wakeUp s)) ∧
          t = addWake wake (endInstructionStep (wakeUp s) (applyDelta d (wakeUp s))))) := by
    intro wake ha
    have same : dispatches (wakeUp s) = dispatches s := rfl
    cases hd : dispatches s with
    | true =>
      rw [activeStep, same, hd] at ha
      have h2 : s.ime = .set ∧ s.pending ≠ 0#8 := by simpa [dispatches] using hd
      exact .inl ⟨h2.1, h2.2, (Host.Outcome.next.inj ha).symm⟩
    | false =>
      obtain ⟨d, hx⟩ := exec_applies_delta (decodeBytes s.fetchOpcode s.fetchB1 s.fetchB2) (wakeUp s)
      rw [activeStep, same, hd] at ha
      have hi : instructionStep (wakeUp s) = mapNext (endInstructionStep (wakeUp s))
          (exec (decodeBytes s.fetchOpcode s.fetchB1 s.fetchB2) (wakeUp s)) := rfl
      rw [hi, hx] at ha
      exact .inr ⟨rfl, d, hx, (Host.Outcome.next.inj ha).symm⟩
  unfold step driverStep at h
  cases hl : s.locked with
  | true => rw [hl] at h; exact .inl ⟨.inl rfl, (Host.Outcome.next.inj h).symm⟩
  | false =>
    cases hs : s.stopped with
    | true => rw [hl, hs] at h; exact .inl ⟨.inr rfl, (Host.Outcome.next.inj h).symm⟩
    | false =>
      refine .inr ⟨rfl, rfl, ?_⟩
      cases hh : s.halted with
      | true =>
        rw [hl, hs, hh] at h
        by_cases hp : s.pending = 0#8
        · simp only [hp, if_true, Bool.false_eq_true, if_false] at h
          exact .inl ⟨rfl, hp, (Host.Outcome.next.inj h).symm⟩
        · simp only [hp, if_true, Bool.false_eq_true, if_false] at h
          exact .inr ⟨4, .inl ⟨rfl, hp, rfl⟩, active 4 h⟩
      | false =>
        have same : wakeUp s = s := by cases s; simp only [wakeUp] at hh ⊢; subst hh; rfl
        rw [hl, hs, hh] at h
        simp only [Bool.false_eq_true, if_false] at h
        exact .inr ⟨0, .inr ⟨rfl, rfl⟩, active 0 (by rw [same]; exact h)⟩

end Sys2Proof.Machine
end

