-- ==== Sys2Proof/Tests/Slice0.lean ====
section
/-! SUPPORT. Tests/Slice0.lean: the model's own tests. Every expected result comes from the spec: the encodings of 30_encoding.md, the
vectors of 95_test_vectors.md, or a hand calculation from the rule named. The last part shows, for each statement with hypotheses, a state
and operands that meet them. -/

namespace Sys2Proof.Tests

open Sys2Proof.Machine Sys2Proof.Claims

/-! ### WellFormed -/

/-- The one check: 0xCB is a prefix and no instruction (R128), so the prefix row's term is refused. -/
theorem test_wellFormed_refuses_the_prefix : Instr.wellFormed (.prefixCB 0x00#8) = false := by decide
theorem test_wellFormed_accepts_an_instruction : Instr.wellFormed (.calla16 0xFFFF#16) = true := by decide

/-! ### Decoding: words written out bit by bit from the encoding lines of the rules -/

/-- R200: `01dddsss`, d = H, s = (code 7) A. -/
theorem test_decode_load8 : decode [0b01100111#8] = .ok (.ldHA, []) := by decide
/-- R201: `00ddd110` and n8. -/
theorem test_decode_load8_immediate : decode [0b00111110#8, 0x64#8] = .ok (.ldAn8 0x64#8, []) := by decide
/-- R240: `00pp0001`, p = DE, low byte first. -/
theorem test_decode_load16 : decode [0b00010001#8, 0xA0#8, 0x01#8] = .ok (.ldDEn16 0x01A0#16, []) := by decide
/-- R244: `11pp0101`, p = AF. -/
theorem test_decode_push : decode [0b11110101#8, 0x77#8] = .ok (.pushAF, [0x77#8]) := by decide
/-- R260: `10ooozzz`, ooo = CP, zzz = (HL). -/
theorem test_decode_alu8 : decode [0b10111110#8] = .ok (.cpMemHL, []) := by decide
/-- R289: `00yyy101`, y = L. -/
theorem test_decode_dec8 : decode [0b00101101#8] = .ok (.decL, []) := by decide
/-- R323: `00pp1011`, p = SP. -/
theorem test_decode_alu16 : decode [0b00111011#8] = .ok (.decSP, []) := by decide
/-- R130: 0xCB, x = 0, y = SRA, z = E. -/
theorem test_decode_rotate : decode [0b11001011#8, 0b00101011#8] = .ok (.sraE, []) := by decide
/-- R130: 0xCB, x = 2, bit 5, z = (HL). -/
theorem test_decode_res : decode [0b11001011#8, 0b10101110#8] = .ok (.res5MemHL, []) := by decide
/-- R387: `110cc100`, cc = NC. -/
theorem test_decode_control : decode [0b11010100#8, 0x00#8, 0x30#8] = .ok (.callNCa16 0x3000#16, []) := by decide
/-- R391: `11yyy111`, y = 7. -/
theorem test_decode_rst : decode [0b11111111#8] = .ok (.rst38, []) := by decide
/-- R411: 0x76 is HALT, no load. -/
theorem test_decode_system : decode [0b01110110#8] = .ok (.halt, []) := by decide
/-- A three-byte instruction needs its three bytes. -/
theorem test_decode_truncated : decode [0xCD#8, 0x34#8] = .error .truncated := by decide

/-! ### Every constructor's word: the maps of R129 and R130, row by row (the words of opcode_table.json) -/

/-- R129, row 0x, operand bytes 34 12. -/
theorem test_words_base_0x :
    [0x00#8, 0x01#8, 0x02#8, 0x03#8, 0x04#8, 0x05#8, 0x06#8, 0x07#8, 0x08#8, 0x09#8, 0x0A#8, 0x0B#8, 0x0C#8, 0x0D#8, 0x0E#8, 0x0F#8].map (fun b => decodeBytes b 0x34#8 0x12#8) =
      [.nop, .ldBCn16 0x1234#16, .ldMemBCA, .incBC, .incB, .decB, .ldBn8 0x34#8, .rlca, .ldMema16SP 0x1234#16, .addHLBC, .ldAMemBC,
     .decBC, .incC, .decC, .ldCn8 0x34#8, .rrca] := by decide

/-- R129, row 1x, operand bytes 34 12. -/
theorem test_words_base_1x :
    [0x10#8, 0x11#8, 0x12#8, 0x13#8, 0x14#8, 0x15#8, 0x16#8, 0x17#8, 0x18#8, 0x19#8, 0x1A#8, 0x1B#8, 0x1C#8, 0x1D#8, 0x1E#8, 0x1F#8].map (fun b => decodeBytes b 0x34#8 0x12#8) =
      [.stop 0x34#8, .ldDEn16 0x1234#16, .ldMemDEA, .incDE, .incD, .decD, .ldDn8 0x34#8, .rla, .jre8 0x34#8, .addHLDE, .ldAMemDE,
     .decDE, .incE, .decE, .ldEn8 0x34#8, .rra] := by decide

/-- R129, row 2x, operand bytes 34 12. -/
theorem test_words_base_2x :
    [0x20#8, 0x21#8, 0x22#8, 0x23#8, 0x24#8, 0x25#8, 0x26#8, 0x27#8, 0x28#8, 0x29#8, 0x2A#8, 0x2B#8, 0x2C#8, 0x2D#8, 0x2E#8, 0x2F#8].map (fun b => decodeBytes b 0x34#8 0x12#8) =
      [.jrNZe8 0x34#8, .ldHLn16 0x1234#16, .ldMemHLIncA, .incHL, .incH, .decH, .ldHn8 0x34#8, .daa, .jrZe8 0x34#8, .addHLHL,
     .ldAMemHLInc, .decHL, .incL, .decL, .ldLn8 0x34#8, .cpl] := by decide

/-- R129, row 3x, operand bytes 34 12. -/
theorem test_words_base_3x :
    [0x30#8, 0x31#8, 0x32#8, 0x33#8, 0x34#8, 0x35#8, 0x36#8, 0x37#8, 0x38#8, 0x39#8, 0x3A#8, 0x3B#8, 0x3C#8, 0x3D#8, 0x3E#8, 0x3F#8].map (fun b => decodeBytes b 0x34#8 0x12#8) =
      [.jrNCe8 0x34#8, .ldSPn16 0x1234#16, .ldMemHLDecA, .incSP, .incMemHL, .decMemHL, .ldMemHLn8 0x34#8, .scf, .jrCe8 0x34#8,
     .addHLSP, .ldAMemHLDec, .decSP, .incA, .decA, .ldAn8 0x34#8, .ccf] := by decide

/-- R129, row 4x, operand bytes 34 12. -/
theorem test_words_base_4x :
    [0x40#8, 0x41#8, 0x42#8, 0x43#8, 0x44#8, 0x45#8, 0x46#8, 0x47#8, 0x48#8, 0x49#8, 0x4A#8, 0x4B#8, 0x4C#8, 0x4D#8, 0x4E#8, 0x4F#8].map (fun b => decodeBytes b 0x34#8 0x12#8) =
      [.ldBB, .ldBC, .ldBD, .ldBE, .ldBH, .ldBL, .ldBMemHL, .ldBA, .ldCB, .ldCC, .ldCD, .ldCE, .ldCH, .ldCL, .ldCMemHL, .ldCA] := by decide

/-- R129, row 5x, operand bytes 34 12. -/
theorem test_words_base_5x :
    [0x50#8, 0x51#8, 0x52#8, 0x53#8, 0x54#8, 0x55#8, 0x56#8, 0x57#8, 0x58#8, 0x59#8, 0x5A#8, 0x5B#8, 0x5C#8, 0x5D#8, 0x5E#8, 0x5F#8].map (fun b => decodeBytes b 0x34#8 0x12#8) =
      [.ldDB, .ldDC, .ldDD, .ldDE, .ldDH, .ldDL, .ldDMemHL, .ldDA, .ldEB, .ldEC, .ldED, .ldEE, .ldEH, .ldEL, .ldEMemHL, .ldEA] := by decide

/-- R129, row 6x, operand bytes 34 12. -/
theorem test_words_base_6x :
    [0x60#8, 0x61#8, 0x62#8, 0x63#8, 0x64#8, 0x65#8, 0x66#8, 0x67#8, 0x68#8, 0x69#8, 0x6A#8, 0x6B#8, 0x6C#8, 0x6D#8, 0x6E#8, 0x6F#8].map (fun b => decodeBytes b 0x34#8 0x12#8) =
      [.ldHB, .ldHC, .ldHD, .ldHE, .ldHH, .ldHL, .ldHMemHL, .ldHA, .ldLB, .ldLC, .ldLD, .ldLE, .ldLH, .ldLL, .ldLMemHL, .ldLA] := by decide

/-- R129, row 7x, operand bytes 34 12. -/
theorem test_words_base_7x :
    [0x70#8, 0x71#8, 0x72#8, 0x73#8, 0x74#8, 0x75#8, 0x76#8, 0x77#8, 0x78#8, 0x79#8, 0x7A#8, 0x7B#8, 0x7C#8, 0x7D#8, 0x7E#8, 0x7F#8].map (fun b => decodeBytes b 0x34#8 0x12#8) =
      [.ldMemHLB, .ldMemHLC, .ldMemHLD, .ldMemHLE, .ldMemHLH, .ldMemHLL, .halt, .ldMemHLA, .ldAB, .ldAC, .ldAD, .ldAE, .ldAH,
     .ldAL, .ldAMemHL, .ldAA] := by decide

/-- R129, row 8x, operand bytes 34 12. -/
theorem test_words_base_8x :
    [0x80#8, 0x81#8, 0x82#8, 0x83#8, 0x84#8, 0x85#8, 0x86#8, 0x87#8, 0x88#8, 0x89#8, 0x8A#8, 0x8B#8, 0x8C#8, 0x8D#8, 0x8E#8, 0x8F#8].map (fun b => decodeBytes b 0x34#8 0x12#8) =
      [.addAB, .addAC, .addAD, .addAE, .addAH, .addAL, .addAMemHL, .addAA, .adcAB, .adcAC, .adcAD, .adcAE, .adcAH, .adcAL,
     .adcAMemHL, .adcAA] := by decide

/-- R129, row 9x, operand bytes 34 12. -/
theorem test_words_base_9x :
    [0x90#8, 0x91#8, 0x92#8, 0x93#8, 0x94#8, 0x95#8, 0x96#8, 0x97#8, 0x98#8, 0x99#8, 0x9A#8, 0x9B#8, 0x9C#8, 0x9D#8, 0x9E#8, 0x9F#8].map (fun b => decodeBytes b 0x34#8 0x12#8) =
      [.subB, .subC, .subD, .subE, .subH, .subL, .subMemHL, .subA, .sbcAB, .sbcAC, .sbcAD, .sbcAE, .sbcAH, .sbcAL, .sbcAMemHL,
     .sbcAA] := by decide

/-- R129, row Ax, operand bytes 34 12. -/
theorem test_words_base_Ax :
    [0xA0#8, 0xA1#8, 0xA2#8, 0xA3#8, 0xA4#8, 0xA5#8, 0xA6#8, 0xA7#8, 0xA8#8, 0xA9#8, 0xAA#8, 0xAB#8, 0xAC#8, 0xAD#8, 0xAE#8, 0xAF#8].map (fun b => decodeBytes b 0x34#8 0x12#8) =
      [.andB, .andC, .andD, .andE, .andH, .andL, .andMemHL, .andA, .xorB, .xorC, .xorD, .xorE, .xorH, .xorL, .xorMemHL, .xorA] := by decide

/-- R129, row Bx, operand bytes 34 12. -/
theorem test_words_base_Bx :
    [0xB0#8, 0xB1#8, 0xB2#8, 0xB3#8, 0xB4#8, 0xB5#8, 0xB6#8, 0xB7#8, 0xB8#8, 0xB9#8, 0xBA#8, 0xBB#8, 0xBC#8, 0xBD#8, 0xBE#8, 0xBF#8].map (fun b => decodeBytes b 0x34#8 0x12#8) =
      [.orB, .orC, .orD, .orE, .orH, .orL, .orMemHL, .orA, .cpB, .cpC, .cpD, .cpE, .cpH, .cpL, .cpMemHL, .cpA] := by decide

/-- R129, row Cx, operand bytes 34 12. -/
theorem test_words_base_Cx :
    [0xC0#8, 0xC1#8, 0xC2#8, 0xC3#8, 0xC4#8, 0xC5#8, 0xC6#8, 0xC7#8, 0xC8#8, 0xC9#8, 0xCA#8, 0xCC#8, 0xCD#8, 0xCE#8, 0xCF#8].map (fun b => decodeBytes b 0x34#8 0x12#8) =
      [.retNZ, .popBC, .jpNZa16 0x1234#16, .jpa16 0x1234#16, .callNZa16 0x1234#16, .pushBC, .addAn8 0x34#8, .rst00, .retZ, .ret,
     .jpZa16 0x1234#16, .callZa16 0x1234#16, .calla16 0x1234#16, .adcAn8 0x34#8, .rst08] := by decide

/-- R129, row Dx, operand bytes 34 12. -/
theorem test_words_base_Dx :
    [0xD0#8, 0xD1#8, 0xD2#8, 0xD3#8, 0xD4#8, 0xD5#8, 0xD6#8, 0xD7#8, 0xD8#8, 0xD9#8, 0xDA#8, 0xDB#8, 0xDC#8, 0xDD#8, 0xDE#8, 0xDF#8].map (fun b => decodeBytes b 0x34#8 0x12#8) =
      [.retNC, .popDE, .jpNCa16 0x1234#16, .undefD3, .callNCa16 0x1234#16, .pushDE, .subn8 0x34#8, .rst10, .retC, .reti,
     .jpCa16 0x1234#16, .undefDB, .callCa16 0x1234#16, .undefDD, .sbcAn8 0x34#8, .rst18] := by decide

/-- R129, row Ex, operand bytes 34 12. -/
theorem test_words_base_Ex :
    [0xE0#8, 0xE1#8, 0xE2#8, 0xE3#8, 0xE4#8, 0xE5#8, 0xE6#8, 0xE7#8, 0xE8#8, 0xE9#8, 0xEA#8, 0xEB#8, 0xEC#8, 0xED#8, 0xEE#8, 0xEF#8].map (fun b => decodeBytes b 0x34#8 0x12#8) =
      [.ldhMema8A 0x34#8, .popHL, .ldhMemCA, .undefE3, .undefE4, .pushHL, .andn8 0x34#8, .rst20, .addSPe8 0x34#8, .jpHL,
     .ldMema16A 0x1234#16, .undefEB, .undefEC, .undefED, .xorn8 0x34#8, .rst28] := by decide

/-- R129, row Fx, operand bytes 34 12. -/
theorem test_words_base_Fx :
    [0xF0#8, 0xF1#8, 0xF2#8, 0xF3#8, 0xF4#8, 0xF5#8, 0xF6#8, 0xF7#8, 0xF8#8, 0xF9#8, 0xFA#8, 0xFB#8, 0xFC#8, 0xFD#8, 0xFE#8, 0xFF#8].map (fun b => decodeBytes b 0x34#8 0x12#8) =
      [.ldhAMema8 0x34#8, .popAF, .ldhAMemC, .di, .undefF4, .pushAF, .orn8 0x34#8, .rst30, .ldHLSPe8 0x34#8, .ldSPHL,
     .ldAMema16 0x1234#16, .ei, .undefFC, .undefFD, .cpn8 0x34#8, .rst38] := by decide

/-- R130, row 0x. -/
theorem test_words_extended_0x :
    [0x00#8, 0x01#8, 0x02#8, 0x03#8, 0x04#8, 0x05#8, 0x06#8, 0x07#8, 0x08#8, 0x09#8, 0x0A#8, 0x0B#8, 0x0C#8, 0x0D#8, 0x0E#8, 0x0F#8].map (fun b => decodeBytes 0xCB#8 b 0x12#8) =
      [.rlcB, .rlcC, .rlcD, .rlcE, .rlcH, .rlcL, .rlcMemHL, .rlcA, .rrcB, .rrcC, .rrcD, .rrcE, .rrcH, .rrcL, .rrcMemHL, .rrcA] := by decide

/-- R130, row 1x. -/
theorem test_words_extended_1x :
    [0x10#8, 0x11#8, 0x12#8, 0x13#8, 0x14#8, 0x15#8, 0x16#8, 0x17#8, 0x18#8, 0x19#8, 0x1A#8, 0x1B#8, 0x1C#8, 0x1D#8, 0x1E#8, 0x1F#8].map (fun b => decodeBytes 0xCB#8 b 0x12#8) =
      [.rlB, .rlC, .rlD, .rlE, .rlH, .rlL, .rlMemHL, .rlA, .rrB, .rrC, .rrD, .rrE, .rrH, .rrL, .rrMemHL, .rrA] := by decide

/-- R130, row 2x. -/
theorem test_words_extended_2x :
    [0x20#8, 0x21#8, 0x22#8, 0x23#8, 0x24#8, 0x25#8, 0x26#8, 0x27#8, 0x28#8, 0x29#8, 0x2A#8, 0x2B#8, 0x2C#8, 0x2D#8, 0x2E#8, 0x2F#8].map (fun b => decodeBytes 0xCB#8 b 0x12#8) =
      [.slaB, .slaC, .slaD, .slaE, .slaH, .slaL, .slaMemHL, .slaA, .sraB, .sraC, .sraD, .sraE, .sraH, .sraL, .sraMemHL, .sraA] := by decide

/-- R130, row 3x. -/
theorem test_words_extended_3x :
    [0x30#8, 0x31#8, 0x32#8, 0x33#8, 0x34#8, 0x35#8, 0x36#8, 0x37#8, 0x38#8, 0x39#8, 0x3A#8, 0x3B#8, 0x3C#8, 0x3D#8, 0x3E#8, 0x3F#8].map (fun b => decodeBytes 0xCB#8 b 0x12#8) =
      [.swapB, .swapC, .swapD, .swapE, .swapH, .swapL, .swapMemHL, .swapA, .srlB, .srlC, .srlD, .srlE, .srlH, .srlL, .srlMemHL,
     .srlA] := by decide

/-- R130, row 4x. -/
theorem test_words_extended_4x :
    [0x40#8, 0x41#8, 0x42#8, 0x43#8, 0x44#8, 0x45#8, 0x46#8, 0x47#8, 0x48#8, 0x49#8, 0x4A#8, 0x4B#8, 0x4C#8, 0x4D#8, 0x4E#8, 0x4F#8].map (fun b => decodeBytes 0xCB#8 b 0x12#8) =
      [.bit0B, .bit0C, .bit0D, .bit0E, .bit0H, .bit0L, .bit0MemHL, .bit0A, .bit1B, .bit1C, .bit1D, .bit1E, .bit1H, .bit1L,
     .bit1MemHL, .bit1A] := by decide

/-- R130, row 5x. -/
theorem test_words_extended_5x :
    [0x50#8, 0x51#8, 0x52#8, 0x53#8, 0x54#8, 0x55#8, 0x56#8, 0x57#8, 0x58#8, 0x59#8, 0x5A#8, 0x5B#8, 0x5C#8, 0x5D#8, 0x5E#8, 0x5F#8].map (fun b => decodeBytes 0xCB#8 b 0x12#8) =
      [.bit2B, .bit2C, .bit2D, .bit2E, .bit2H, .bit2L, .bit2MemHL, .bit2A, .bit3B, .bit3C, .bit3D, .bit3E, .bit3H, .bit3L,
     .bit3MemHL, .bit3A] := by decide

/-- R130, row 6x. -/
theorem test_words_extended_6x :
    [0x60#8, 0x61#8, 0x62#8, 0x63#8, 0x64#8, 0x65#8, 0x66#8, 0x67#8, 0x68#8, 0x69#8, 0x6A#8, 0x6B#8, 0x6C#8, 0x6D#8, 0x6E#8, 0x6F#8].map (fun b => decodeBytes 0xCB#8 b 0x12#8) =
      [.bit4B, .bit4C, .bit4D, .bit4E, .bit4H, .bit4L, .bit4MemHL, .bit4A, .bit5B, .bit5C, .bit5D, .bit5E, .bit5H, .bit5L,
     .bit5MemHL, .bit5A] := by decide

/-- R130, row 7x. -/
theorem test_words_extended_7x :
    [0x70#8, 0x71#8, 0x72#8, 0x73#8, 0x74#8, 0x75#8, 0x76#8, 0x77#8, 0x78#8, 0x79#8, 0x7A#8, 0x7B#8, 0x7C#8, 0x7D#8, 0x7E#8, 0x7F#8].map (fun b => decodeBytes 0xCB#8 b 0x12#8) =
      [.bit6B, .bit6C, .bit6D, .bit6E, .bit6H, .bit6L, .bit6MemHL, .bit6A, .bit7B, .bit7C, .bit7D, .bit7E, .bit7H, .bit7L,
     .bit7MemHL, .bit7A] := by decide

/-- R130, row 8x. -/
theorem test_words_extended_8x :
    [0x80#8, 0x81#8, 0x82#8, 0x83#8, 0x84#8, 0x85#8, 0x86#8, 0x87#8, 0x88#8, 0x89#8, 0x8A#8, 0x8B#8, 0x8C#8, 0x8D#8, 0x8E#8, 0x8F#8].map (fun b => decodeBytes 0xCB#8 b 0x12#8) =
      [.res0B, .res0C, .res0D, .res0E, .res0H, .res0L, .res0MemHL, .res0A, .res1B, .res1C, .res1D, .res1E, .res1H, .res1L,
     .res1MemHL, .res1A] := by decide

/-- R130, row 9x. -/
theorem test_words_extended_9x :
    [0x90#8, 0x91#8, 0x92#8, 0x93#8, 0x94#8, 0x95#8, 0x96#8, 0x97#8, 0x98#8, 0x99#8, 0x9A#8, 0x9B#8, 0x9C#8, 0x9D#8, 0x9E#8, 0x9F#8].map (fun b => decodeBytes 0xCB#8 b 0x12#8) =
      [.res2B, .res2C, .res2D, .res2E, .res2H, .res2L, .res2MemHL, .res2A, .res3B, .res3C, .res3D, .res3E, .res3H, .res3L,
     .res3MemHL, .res3A] := by decide

/-- R130, row Ax. -/
theorem test_words_extended_Ax :
    [0xA0#8, 0xA1#8, 0xA2#8, 0xA3#8, 0xA4#8, 0xA5#8, 0xA6#8, 0xA7#8, 0xA8#8, 0xA9#8, 0xAA#8, 0xAB#8, 0xAC#8, 0xAD#8, 0xAE#8, 0xAF#8].map (fun b => decodeBytes 0xCB#8 b 0x12#8) =
      [.res4B, .res4C, .res4D, .res4E, .res4H, .res4L, .res4MemHL, .res4A, .res5B, .res5C, .res5D, .res5E, .res5H, .res5L,
     .res5MemHL, .res5A] := by decide

/-- R130, row Bx. -/
theorem test_words_extended_Bx :
    [0xB0#8, 0xB1#8, 0xB2#8, 0xB3#8, 0xB4#8, 0xB5#8, 0xB6#8, 0xB7#8, 0xB8#8, 0xB9#8, 0xBA#8, 0xBB#8, 0xBC#8, 0xBD#8, 0xBE#8, 0xBF#8].map (fun b => decodeBytes 0xCB#8 b 0x12#8) =
      [.res6B, .res6C, .res6D, .res6E, .res6H, .res6L, .res6MemHL, .res6A, .res7B, .res7C, .res7D, .res7E, .res7H, .res7L,
     .res7MemHL, .res7A] := by decide

/-- R130, row Cx. -/
theorem test_words_extended_Cx :
    [0xC0#8, 0xC1#8, 0xC2#8, 0xC3#8, 0xC4#8, 0xC5#8, 0xC6#8, 0xC7#8, 0xC8#8, 0xC9#8, 0xCA#8, 0xCB#8, 0xCC#8, 0xCD#8, 0xCE#8, 0xCF#8].map (fun b => decodeBytes 0xCB#8 b 0x12#8) =
      [.set0B, .set0C, .set0D, .set0E, .set0H, .set0L, .set0MemHL, .set0A, .set1B, .set1C, .set1D, .set1E, .set1H, .set1L,
     .set1MemHL, .set1A] := by decide

/-- R130, row Dx. -/
theorem test_words_extended_Dx :
    [0xD0#8, 0xD1#8, 0xD2#8, 0xD3#8, 0xD4#8, 0xD5#8, 0xD6#8, 0xD7#8, 0xD8#8, 0xD9#8, 0xDA#8, 0xDB#8, 0xDC#8, 0xDD#8, 0xDE#8, 0xDF#8].map (fun b => decodeBytes 0xCB#8 b 0x12#8) =
      [.set2B, .set2C, .set2D, .set2E, .set2H, .set2L, .set2MemHL, .set2A, .set3B, .set3C, .set3D, .set3E, .set3H, .set3L,
     .set3MemHL, .set3A] := by decide

/-- R130, row Ex. -/
theorem test_words_extended_Ex :
    [0xE0#8, 0xE1#8, 0xE2#8, 0xE3#8, 0xE4#8, 0xE5#8, 0xE6#8, 0xE7#8, 0xE8#8, 0xE9#8, 0xEA#8, 0xEB#8, 0xEC#8, 0xED#8, 0xEE#8, 0xEF#8].map (fun b => decodeBytes 0xCB#8 b 0x12#8) =
      [.set4B, .set4C, .set4D, .set4E, .set4H, .set4L, .set4MemHL, .set4A, .set5B, .set5C, .set5D, .set5E, .set5H, .set5L,
     .set5MemHL, .set5A] := by decide

/-- R130, row Fx. -/
theorem test_words_extended_Fx :
    [0xF0#8, 0xF1#8, 0xF2#8, 0xF3#8, 0xF4#8, 0xF5#8, 0xF6#8, 0xF7#8, 0xF8#8, 0xF9#8, 0xFA#8, 0xFB#8, 0xFC#8, 0xFD#8, 0xFE#8, 0xFF#8].map (fun b => decodeBytes 0xCB#8 b 0x12#8) =
      [.set6B, .set6C, .set6D, .set6E, .set6H, .set6L, .set6MemHL, .set6A, .set7B, .set7C, .set7D, .set7E, .set7H, .set7L,
     .set7MemHL, .set7A] := by decide

/-! ### One step each -/

/-- A running core about to fetch `bytes` at `pc`: the defaults of 95_test_vectors.md. -/
def start (pc : Word) (bytes : List Byte) : State :=
  { State.reset with pc := pc, sp := 0xFFFE#16, firstStep := false }.withBytes pc bytes

/-- Whether the step from `s` answers a next state that `p` holds of. -/
def gives (s : State) (p : State → Bool) : Bool :=
  match step s with
  | .next t => p t
  | .fault _ => false
  | .refused _ => false

/-- V1 of 95_test_vectors.md (R200). -/
theorem test_v1_ld_b_c :
    gives ({ start 0x0100#16 [0x41#8] with b := 0x11#8, c := 0x22#8 }) (fun t => t.b == 0x22#8 && t.pc == 0x0101#16 && t.cost == 4) = true := by decide

/-- V4 of 95_test_vectors.md (R202). -/
theorem test_v4_ld_h_mem_hl_address_from_old_hl :
    gives (hostEdit [(0xC000#16, 0x12#8)] { start 0x0100#16 [0x66#8] with h := 0xC0#8, l := 0x00#8 }) (fun t => t.h == 0x12#8 && t.pc == 0x0101#16 && t.cost == 8) = true := by decide

/-- V5 of 95_test_vectors.md (R203). -/
theorem test_v5_ld_mem_hl_b :
    gives ({ start 0x0100#16 [0x70#8] with b := 0x77#8, h := 0xC0#8, l := 0x10#8 }) (fun t => t.pc == 0x0101#16 && t.read 0xC010#16 == 0x77#8 && t.cost == 8) = true := by decide

/-- V7 of 95_test_vectors.md (R204). -/
theorem test_v7_ld_mem_hl_n8 :
    gives ({ start 0x0100#16 [0x36#8, 0xAB#8] with h := 0xC0#8, l := 0x20#8 }) (fun t => t.pc == 0x0102#16 && t.read 0xC020#16 == 0xAB#8 && t.cost == 12) = true := by decide

/-- V8 of 95_test_vectors.md (R201). -/
theorem test_v8_ld_b_n8 :
    gives (start 0x0100#16 [0x06#8, 0xFF#8]) (fun t => t.b == 0xFF#8 && t.pc == 0x0102#16 && t.cost == 8) = true := by decide

/-- V9 of 95_test_vectors.md (R205). -/
theorem test_v9_ld_a_mem_bc :
    gives (hostEdit [(0xC100#16, 0x42#8)] { start 0x0100#16 [0x0A#8] with b := 0xC1#8, c := 0x00#8 }) (fun t => t.a == 0x42#8 && t.pc == 0x0101#16 && t.cost == 8) = true := by decide

/-- V10 of 95_test_vectors.md (R206). -/
theorem test_v10_ld_a_mem_de :
    gives (hostEdit [(0xC101#16, 0x43#8)] { start 0x0100#16 [0x1A#8] with d := 0xC1#8, e := 0x01#8 }) (fun t => t.a == 0x43#8 && t.pc == 0x0101#16 && t.cost == 8) = true := by decide

/-- V11 of 95_test_vectors.md (R207). -/
theorem test_v11_ld_mem_bc_a :
    gives ({ start 0x0100#16 [0x02#8] with a := 0x64#8, b := 0xC2#8, c := 0x00#8 }) (fun t => t.pc == 0x0101#16 && t.read 0xC200#16 == 0x64#8 && t.cost == 8) = true := by decide

/-- V12 of 95_test_vectors.md (R208). -/
theorem test_v12_ld_mem_de_a :
    gives ({ start 0x0100#16 [0x12#8] with a := 0x65#8, d := 0xC2#8, e := 0x01#8 }) (fun t => t.pc == 0x0101#16 && t.read 0xC201#16 == 0x65#8 && t.cost == 8) = true := by decide

/-- V13 of 95_test_vectors.md (R215). -/
theorem test_v13_ld_a_hl_inc_wraps_hl_to_0000 :
    gives (hostEdit [(0xFFFF#16, 0x1F#8)] { start 0x0100#16 [0x2A#8] with h := 0xFF#8, l := 0xFF#8 }) (fun t => t.a == 0x1F#8 && t.h == 0x00#8 && t.l == 0x00#8 && t.pc == 0x0101#16 && t.cost == 8) = true := by decide

/-- V14 of 95_test_vectors.md (R216). -/
theorem test_v14_ld_a_hl_dec :
    gives (hostEdit [(0xC000#16, 0x3C#8)] { start 0x0100#16 [0x3A#8] with h := 0xC0#8, l := 0x00#8 }) (fun t => t.a == 0x3C#8 && t.h == 0xBF#8 && t.l == 0xFF#8 && t.pc == 0x0101#16 && t.cost == 8) = true := by decide

/-- V15 of 95_test_vectors.md (R217). -/
theorem test_v15_ld_hl_inc_a_carries_into_h :
    gives ({ start 0x0100#16 [0x22#8] with a := 0x01#8, h := 0xC0#8, l := 0xFF#8 }) (fun t => t.h == 0xC1#8 && t.l == 0x00#8 && t.pc == 0x0101#16 && t.read 0xC0FF#16 == 0x01#8 && t.cost == 8) = true := by decide

/-- V16 of 95_test_vectors.md (R218). -/
theorem test_v16_ld_hl_dec_a_wraps_hl_to_ffff :
    gives ({ start 0x0100#16 [0x32#8] with a := 0x02#8, h := 0x00#8, l := 0x00#8 }) (fun t => t.h == 0xFF#8 && t.l == 0xFF#8 && t.pc == 0x0101#16 && t.read 0x0000#16 == 0x02#8 && t.cost == 8) = true := by decide

/-- V17 of 95_test_vectors.md (R209). -/
theorem test_v17_ld_a_mem_a16 :
    gives (hostEdit [(0x1234#16, 0xEE#8)] (start 0x0100#16 [0xFA#8, 0x34#8, 0x12#8])) (fun t => t.a == 0xEE#8 && t.pc == 0x0103#16 && t.cost == 16) = true := by decide

/-- V18 of 95_test_vectors.md (R210). -/
theorem test_v18_ld_mem_a16_a :
    gives ({ start 0x0100#16 [0xEA#8, 0x00#8, 0xC0#8] with a := 0x99#8 }) (fun t => t.pc == 0x0103#16 && t.read 0xC000#16 == 0x99#8 && t.cost == 16) = true := by decide

/-- V19 of 95_test_vectors.md (R214). -/
theorem test_v19_ldh_mem_a8_a :
    gives ({ start 0x0100#16 [0xE0#8, 0x80#8] with a := 0x81#8 }) (fun t => t.pc == 0x0102#16 && t.read 0xFF80#16 == 0x81#8 && t.cost == 12) = true := by decide

/-- V20 of 95_test_vectors.md (R213). -/
theorem test_v20_ldh_a_mem_a8 :
    gives (hostEdit [(0xFF44#16, 0x90#8)] (start 0x0100#16 [0xF0#8, 0x44#8])) (fun t => t.a == 0x90#8 && t.pc == 0x0102#16 && t.cost == 12) = true := by decide

/-- V21 of 95_test_vectors.md (R212). -/
theorem test_v21_ldh_mem_c_a_writes_if :
    gives ({ start 0x0100#16 [0xE2#8] with a := 0x07#8, c := 0x0F#8 }) (fun t => t.pc == 0x0101#16 && t.read 0xFF0F#16 == 0x07#8 && t.cost == 8) = true := by decide

/-- V22 of 95_test_vectors.md (R211). -/
theorem test_v22_ldh_a_mem_c_reads_ie :
    gives (hostEdit [(0xFFFF#16, 0x1F#8)] { start 0x0100#16 [0xF2#8] with c := 0xFF#8 }) (fun t => t.a == 0x1F#8 && t.pc == 0x0101#16 && t.cost == 8) = true := by decide

/-- V23 of 95_test_vectors.md (R240). -/
theorem test_v23_ld_bc_n16_source_example_little_endian :
    gives (start 0x0100#16 [0x01#8, 0xA0#8, 0x01#8]) (fun t => t.b == 0x01#8 && t.c == 0xA0#8 && t.pc == 0x0103#16 && t.cost == 12) = true := by decide

/-- V25 of 95_test_vectors.md (R241). -/
theorem test_v25_ld_mem_a16_sp_at_ffff_wraps :
    gives ({ start 0x0100#16 [0x08#8, 0xFF#8, 0xFF#8] with sp := 0xABCD#16 }) (fun t => t.pc == 0x0103#16 && t.read 0x0000#16 == 0xAB#8 && t.read 0xFFFF#16 == 0xCD#8 && t.cost == 20) = true := by decide

/-- V26 of 95_test_vectors.md (R242). -/
theorem test_v26_ld_sp_hl :
    gives ({ start 0x0100#16 [0xF9#8] with h := 0xDF#8, l := 0xF0#8 }) (fun t => t.sp == 0xDFF0#16 && t.pc == 0x0101#16 && t.cost == 8) = true := by decide

/-- V29 of 95_test_vectors.md (R243). -/
theorem test_v29_ld_hl_sp_1_from_0001_h_and_c_from_01_ff :
    gives ({ start 0x0100#16 [0xF8#8, 0xFF#8] with sp := 0x0001#16, h := 0x12#8, l := 0x34#8 }) (fun t => t.f == 0x30#8 && t.h == 0x00#8 && t.l == 0x00#8 && t.pc == 0x0102#16 && t.cost == 12) = true := by decide

/-- V31 of 95_test_vectors.md (R244). -/
theorem test_v31_push_af :
    gives ({ start 0x0100#16 [0xF5#8] with sp := 0xD000#16, a := 0x01#8, f := 0xB0#8 }) (fun t => t.sp == 0xCFFE#16 && t.pc == 0x0101#16 && t.read 0xCFFE#16 == 0xB0#8 && t.read 0xCFFF#16 == 0x01#8 && t.cost == 16) = true := by decide

/-- V32 of 95_test_vectors.md (R246). -/
theorem test_v32_pop_af_drops_f_low_nibble :
    gives (hostEdit [(0xFFFC#16, 0xFF#8), (0xFFFD#16, 0x01#8)] { start 0x0100#16 [0xF1#8] with sp := 0xFFFC#16 }) (fun t => t.a == 0x01#8 && t.f == 0xF0#8 && t.sp == 0xFFFE#16 && t.pc == 0x0101#16 && t.cost == 12) = true := by decide

/-- V33 of 95_test_vectors.md (R245). -/
theorem test_v33_pop_hl_sp_wraps_from_ffff :
    gives (hostEdit [(0x0000#16, 0x12#8), (0xFFFF#16, 0x34#8)] { start 0x0100#16 [0xE1#8] with sp := 0xFFFF#16 }) (fun t => t.h == 0x12#8 && t.l == 0x34#8 && t.sp == 0x0001#16 && t.pc == 0x0101#16 && t.cost == 12) = true := by decide

/-- V34 of 95_test_vectors.md (R263). -/
theorem test_v34_add_a_b_3a_c6_00 :
    gives ({ start 0x0100#16 [0x80#8] with a := 0x3A#8, b := 0xC6#8 }) (fun t => t.a == 0x00#8 && t.f == 0xB0#8 && t.pc == 0x0101#16 && t.cost == 4) = true := by decide

/-- V37 of 95_test_vectors.md (R265). -/
theorem test_v37_add_a_n8_3c_ff :
    gives ({ start 0x0100#16 [0xC6#8, 0xFF#8] with a := 0x3C#8 }) (fun t => t.a == 0x3B#8 && t.f == 0x30#8 && t.pc == 0x0102#16 && t.cost == 8) = true := by decide

/-- V39 of 95_test_vectors.md (R268). -/
theorem test_v39_adc_a_00_with_c_1_ff_0_1 :
    gives ({ start 0x0100#16 [0xCE#8, 0x00#8] with a := 0xFF#8, f := 0x10#8 }) (fun t => t.a == 0x00#8 && t.f == 0xB0#8 && t.pc == 0x0102#16 && t.cost == 8) = true := by decide

/-- V43 of 95_test_vectors.md (R271). -/
theorem test_v43_sub_40_borrow :
    gives ({ start 0x0100#16 [0xD6#8, 0x40#8] with a := 0x3E#8 }) (fun t => t.a == 0xFE#8 && t.f == 0x50#8 && t.pc == 0x0102#16 && t.cost == 8) = true := by decide

/-- V47 of 95_test_vectors.md (R272). -/
theorem test_v47_sbc_a_a_with_c_1_gives_ff :
    gives ({ start 0x0100#16 [0x9F#8] with a := 0x55#8, f := 0x10#8 }) (fun t => t.a == 0xFF#8 && t.f == 0x70#8 && t.pc == 0x0101#16 && t.cost == 4) = true := by decide

/-- V49 of 95_test_vectors.md (R277). -/
theorem test_v49_and_00_clears_c :
    gives ({ start 0x0100#16 [0xE6#8, 0x00#8] with a := 0xFF#8, f := 0x10#8 }) (fun t => t.a == 0x00#8 && t.f == 0xA0#8 && t.pc == 0x0102#16 && t.cost == 8) = true := by decide

/-- V50 of 95_test_vectors.md (R278). -/
theorem test_v50_xor_a :
    gives ({ start 0x0100#16 [0xAF#8] with a := 0xFF#8, f := 0x70#8 }) (fun t => t.a == 0x00#8 && t.f == 0x80#8 && t.pc == 0x0101#16 && t.cost == 4) = true := by decide

/-- V53 of 95_test_vectors.md (R282). -/
theorem test_v53_or_mem_hl_zero :
    gives (hostEdit [(0xC000#16, 0x00#8)] { start 0x0100#16 [0xB6#8] with a := 0x00#8, h := 0xC0#8, l := 0x00#8 }) (fun t => t.f == 0x80#8 && t.pc == 0x0101#16 && t.cost == 8) = true := by decide

/-- V54 of 95_test_vectors.md (R284). -/
theorem test_v54_cp_b_a_unchanged :
    gives ({ start 0x0100#16 [0xB8#8] with a := 0x3C#8, b := 0x2F#8 }) (fun t => t.f == 0x60#8 && t.pc == 0x0101#16 && t.a == 0x3C#8 && t.cost == 4) = true := by decide

/-- V56 of 95_test_vectors.md (R286). -/
theorem test_v56_cp_40_borrow :
    gives ({ start 0x0100#16 [0xFE#8, 0x40#8] with a := 0x3C#8 }) (fun t => t.f == 0x50#8 && t.pc == 0x0102#16 && t.a == 0x3C#8 && t.cost == 8) = true := by decide

/-- V59 of 95_test_vectors.md (R273). -/
theorem test_v59_sbc_a_mem_hl_00_00_1 :
    gives (hostEdit [(0xC000#16, 0x00#8)] { start 0x0100#16 [0x9E#8] with a := 0x00#8, h := 0xC0#8, l := 0x00#8, f := 0x10#8 }) (fun t => t.a == 0xFF#8 && t.f == 0x70#8 && t.pc == 0x0101#16 && t.cost == 8) = true := by decide

/-- V64 of 95_test_vectors.md (R287). -/
theorem test_v64_inc_a_ff_keeps_c :
    gives ({ start 0x0100#16 [0x3C#8] with a := 0xFF#8, f := 0x10#8 }) (fun t => t.a == 0x00#8 && t.f == 0xB0#8 && t.pc == 0x0101#16 && t.cost == 4) = true := by decide

/-- V66 of 95_test_vectors.md (R288). -/
theorem test_v66_inc_mem_hl_ff :
    gives (hostEdit [(0xC000#16, 0xFF#8)] { start 0x0100#16 [0x34#8] with h := 0xC0#8, l := 0x00#8 }) (fun t => t.f == 0xA0#8 && t.pc == 0x0101#16 && t.read 0xC000#16 == 0x00#8 && t.cost == 12) = true := by decide

/-- V68 of 95_test_vectors.md (R289). -/
theorem test_v68_dec_b_00_keeps_c :
    gives ({ start 0x0100#16 [0x05#8] with b := 0x00#8, f := 0x10#8 }) (fun t => t.f == 0x70#8 && t.b == 0xFF#8 && t.pc == 0x0101#16 && t.cost == 4) = true := by decide

/-- V70 of 95_test_vectors.md (R290). -/
theorem test_v70_dec_mem_hl_01 :
    gives (hostEdit [(0xC000#16, 0x01#8)] { start 0x0100#16 [0x35#8] with h := 0xC0#8, l := 0x00#8 }) (fun t => t.f == 0xC0#8 && t.pc == 0x0101#16 && t.read 0xC000#16 == 0x00#8 && t.cost == 12) = true := by decide

/-- V72 of 95_test_vectors.md (R291). -/
theorem test_v72_daa_9a :
    gives ({ start 0x0100#16 [0x27#8] with a := 0x9A#8 }) (fun t => t.a == 0x00#8 && t.f == 0x90#8 && t.pc == 0x0101#16 && t.cost == 4) = true := by decide

/-- V73 of 95_test_vectors.md (R291). -/
theorem test_v73_daa_after_88_78_raw_00_h_1_c_1 :
    gives ({ start 0x0100#16 [0x27#8] with a := 0x00#8, f := 0x30#8 }) (fun t => t.a == 0x66#8 && t.f == 0x10#8 && t.pc == 0x0101#16 && t.cost == 4) = true := by decide

/-- V74 of 95_test_vectors.md (R291). -/
theorem test_v74_daa_after_45_18_raw_2d_n_1_h_1 :
    gives ({ start 0x0100#16 [0x27#8] with a := 0x2D#8, f := 0x60#8 }) (fun t => t.a == 0x27#8 && t.f == 0x40#8 && t.pc == 0x0101#16 && t.cost == 4) = true := by decide

/-- V76 of 95_test_vectors.md (R292). -/
theorem test_v76_cpl :
    gives ({ start 0x0100#16 [0x2F#8] with a := 0x35#8 }) (fun t => t.a == 0xCA#8 && t.f == 0x60#8 && t.pc == 0x0101#16 && t.cost == 4) = true := by decide

/-- V77 of 95_test_vectors.md (R293). -/
theorem test_v77_scf_keeps_z :
    gives ({ start 0x0100#16 [0x37#8] with f := 0xE0#8 }) (fun t => t.f == 0x90#8 && t.pc == 0x0101#16 && t.cost == 4) = true := by decide

/-- V79 of 95_test_vectors.md (R294). -/
theorem test_v79_ccf_with_c_0 :
    gives ({ start 0x0100#16 [0x3F#8] with f := 0x60#8 }) (fun t => t.f == 0x10#8 && t.pc == 0x0101#16 && t.cost == 4) = true := by decide

/-- V81 of 95_test_vectors.md (R321). -/
theorem test_v81_add_hl_bc_ffff_1_keeps_z :
    gives ({ start 0x0100#16 [0x09#8] with h := 0xFF#8, l := 0xFF#8, b := 0x00#8, c := 0x01#8, f := 0x80#8 }) (fun t => t.f == 0xB0#8 && t.h == 0x00#8 && t.l == 0x00#8 && t.pc == 0x0101#16 && t.cost == 8) = true := by decide

/-- V82 of 95_test_vectors.md (R321). -/
theorem test_v82_add_hl_de_0fff_1 :
    gives ({ start 0x0100#16 [0x19#8] with h := 0x0F#8, l := 0xFF#8, d := 0x00#8, e := 0x01#8 }) (fun t => t.f == 0x20#8 && t.h == 0x10#8 && t.l == 0x00#8 && t.pc == 0x0101#16 && t.cost == 8) = true := by decide

/-- V86 of 95_test_vectors.md (R322). -/
theorem test_v86_inc_bc_ffff_wraps_no_flags :
    gives ({ start 0x0100#16 [0x03#8] with b := 0xFF#8, c := 0xFF#8, f := 0x00#8 }) (fun t => t.b == 0x00#8 && t.c == 0x00#8 && t.pc == 0x0101#16 && t.cost == 8) = true := by decide

/-- V89 of 95_test_vectors.md (R323). -/
theorem test_v89_dec_sp :
    gives ({ start 0x0100#16 [0x3B#8] with sp := 0x0000#16 }) (fun t => t.sp == 0xFFFF#16 && t.pc == 0x0101#16 && t.cost == 8) = true := by decide

/-- V91 of 95_test_vectors.md (R325). -/
theorem test_v91_add_sp_1_from_0001 :
    gives ({ start 0x0100#16 [0xE8#8, 0xFF#8] with sp := 0x0001#16 }) (fun t => t.f == 0x30#8 && t.sp == 0x0000#16 && t.pc == 0x0102#16 && t.cost == 16) = true := by decide

/-- V96 of 95_test_vectors.md (R340). -/
theorem test_v96_rlca_of_00_z_cleared :
    gives ({ start 0x0100#16 [0x07#8] with a := 0x00#8, f := 0x80#8 }) (fun t => t.f == 0x00#8 && t.pc == 0x0101#16 && t.cost == 4) = true := by decide

/-- V97 of 95_test_vectors.md (R341). -/
theorem test_v97_rrca :
    gives ({ start 0x0100#16 [0x0F#8] with a := 0x3B#8 }) (fun t => t.a == 0x9D#8 && t.f == 0x10#8 && t.pc == 0x0101#16 && t.cost == 4) = true := by decide

/-- V99 of 95_test_vectors.md (R342). -/
theorem test_v99_rla_80_c_0_result_00_z_0 :
    gives ({ start 0x0100#16 [0x17#8] with a := 0x80#8 }) (fun t => t.a == 0x00#8 && t.f == 0x10#8 && t.pc == 0x0101#16 && t.cost == 4) = true := by decide

/-- V100 of 95_test_vectors.md (R343). -/
theorem test_v100_rra_c_0 :
    gives ({ start 0x0100#16 [0x1F#8] with a := 0x81#8 }) (fun t => t.a == 0x40#8 && t.f == 0x10#8 && t.pc == 0x0101#16 && t.cost == 4) = true := by decide

/-- V106 of 95_test_vectors.md (R349). -/
theorem test_v106_rl_c_80_c_0_source :
    gives ({ start 0x0100#16 [0xCB#8, 0x11#8] with c := 0x80#8 }) (fun t => t.f == 0x90#8 && t.c == 0x00#8 && t.pc == 0x0102#16 && t.cost == 8) = true := by decide

/-- V105 of 95_test_vectors.md (R348). -/
theorem test_v105_rrc_mem_hl_01 :
    gives (hostEdit [(0xC000#16, 0x01#8)] { start 0x0100#16 [0xCB#8, 0x0E#8] with h := 0xC0#8, l := 0x00#8 }) (fun t => t.f == 0x10#8 && t.pc == 0x0102#16 && t.read 0xC000#16 == 0x80#8 && t.cost == 16) = true := by decide

/-- V109 of 95_test_vectors.md (R351). -/
theorem test_v109_rr_a :
    gives ({ start 0x0100#16 [0xCB#8, 0x1F#8] with a := 0x01#8 }) (fun t => t.a == 0x00#8 && t.f == 0x90#8 && t.pc == 0x0102#16 && t.cost == 8) = true := by decide

/-- V112 of 95_test_vectors.md (R354). -/
theorem test_v112_sla_mem_hl :
    gives (hostEdit [(0xC000#16, 0xFF#8)] { start 0x0100#16 [0xCB#8, 0x26#8] with h := 0xC0#8, l := 0x00#8 }) (fun t => t.f == 0x10#8 && t.pc == 0x0102#16 && t.read 0xC000#16 == 0xFE#8 && t.cost == 16) = true := by decide

/-- V113 of 95_test_vectors.md (R355). -/
theorem test_v113_sra_a :
    gives ({ start 0x0100#16 [0xCB#8, 0x2F#8] with a := 0x8A#8 }) (fun t => t.a == 0xC5#8 && t.pc == 0x0102#16 && t.cost == 8) = true := by decide

/-- V115 of 95_test_vectors.md (R357). -/
theorem test_v115_swap_a_clears_n_h_c :
    gives ({ start 0x0100#16 [0xCB#8, 0x37#8] with a := 0xF0#8, f := 0x70#8 }) (fun t => t.a == 0x0F#8 && t.f == 0x00#8 && t.pc == 0x0102#16 && t.cost == 8) = true := by decide

/-- V117 of 95_test_vectors.md (R359). -/
theorem test_v117_srl_b :
    gives ({ start 0x0100#16 [0xCB#8, 0x38#8] with b := 0x01#8 }) (fun t => t.f == 0x90#8 && t.b == 0x00#8 && t.pc == 0x0102#16 && t.cost == 8) = true := by decide

/-- V119 of 95_test_vectors.md (R361). -/
theorem test_v119_bit_7_h_set_c_kept :
    gives ({ start 0x0100#16 [0xCB#8, 0x7C#8] with h := 0x80#8, f := 0x10#8 }) (fun t => t.f == 0x30#8 && t.pc == 0x0102#16 && t.cost == 8) = true := by decide

/-- V121 of 95_test_vectors.md (R362). -/
theorem test_v121_bit_0_mem_hl :
    gives (hostEdit [(0xC000#16, 0xFE#8)] { start 0x0100#16 [0xCB#8, 0x46#8] with h := 0xC0#8, l := 0x00#8 }) (fun t => t.f == 0xA0#8 && t.pc == 0x0102#16 && t.cost == 12) = true := by decide

/-- V123 of 95_test_vectors.md (R364). -/
theorem test_v123_res_0_mem_hl :
    gives (hostEdit [(0xC000#16, 0xFF#8)] { start 0x0100#16 [0xCB#8, 0x86#8] with h := 0xC0#8, l := 0x00#8 }) (fun t => t.pc == 0x0102#16 && t.read 0xC000#16 == 0xFE#8 && t.cost == 16) = true := by decide

/-- V124 of 95_test_vectors.md (R365). -/
theorem test_v124_set_1_e :
    gives ({ start 0x0100#16 [0xCB#8, 0xCB#8] with e := 0x00#8 }) (fun t => t.e == 0x02#8 && t.pc == 0x0102#16 && t.cost == 8) = true := by decide

/-- V127 of 95_test_vectors.md (R382). -/
theorem test_v127_jp_nz_not_taken :
    gives ({ start 0x0150#16 [0xC2#8, 0x00#8, 0x02#8] with f := 0x80#8 }) (fun t => t.pc == 0x0153#16 && t.cost == 12) = true := by decide

/-- V128 of 95_test_vectors.md (R382). -/
theorem test_v128_jp_z_taken :
    gives ({ start 0x0150#16 [0xCA#8, 0x00#8, 0x02#8] with f := 0x80#8 }) (fun t => t.pc == 0x0200#16 && t.cost == 16) = true := by decide

/-- V129 of 95_test_vectors.md (R383). -/
theorem test_v129_jp_hl :
    gives ({ start 0x0100#16 [0xE9#8] with h := 0x40#8, l := 0x00#8 }) (fun t => t.pc == 0x4000#16 && t.cost == 4) = true := by decide

/-- V133 of 95_test_vectors.md (R384). -/
theorem test_v133_jr_127_wraps :
    gives (start 0xFFF0#16 [0x18#8, 0x7F#8]) (fun t => t.pc == 0x0071#16 && t.cost == 12) = true := by decide

/-- V135 of 95_test_vectors.md (R385). -/
theorem test_v135_jr_nz_not_taken :
    gives ({ start 0x0102#16 [0x20#8, 0xFD#8] with f := 0x80#8 }) (fun t => t.pc == 0x0104#16 && t.cost == 8) = true := by decide

/-- V137 of 95_test_vectors.md (R386). -/
theorem test_v137_call :
    gives ({ start 0x0150#16 [0xCD#8, 0x34#8, 0x12#8] with sp := 0xFFFE#16 }) (fun t => t.sp == 0xFFFC#16 && t.pc == 0x1234#16 && t.read 0xFFFC#16 == 0x53#8 && t.read 0xFFFD#16 == 0x01#8 && t.cost == 24) = true := by decide

/-- V138 of 95_test_vectors.md (R387). -/
theorem test_v138_call_c_taken :
    gives ({ start 0x0200#16 [0xDC#8, 0x00#8, 0x30#8] with sp := 0xD000#16, f := 0x10#8 }) (fun t => t.sp == 0xCFFE#16 && t.pc == 0x3000#16 && t.read 0xCFFE#16 == 0x03#8 && t.read 0xCFFF#16 == 0x02#8 && t.cost == 24) = true := by decide

/-- V139 of 95_test_vectors.md (R387). -/
theorem test_v139_call_nc_not_taken :
    gives ({ start 0x0200#16 [0xD4#8, 0x00#8, 0x30#8] with sp := 0xD000#16, f := 0x10#8 }) (fun t => t.pc == 0x0203#16 && t.cost == 12) = true := by decide

/-- V140 of 95_test_vectors.md (R388). -/
theorem test_v140_ret :
    gives (hostEdit [(0xFFFC#16, 0x53#8), (0xFFFD#16, 0x01#8)] { start 0x3000#16 [0xC9#8] with sp := 0xFFFC#16 }) (fun t => t.sp == 0xFFFE#16 && t.pc == 0x0153#16 && t.cost == 16) = true := by decide

/-- V142 of 95_test_vectors.md (R389). -/
theorem test_v142_ret_z_not_taken :
    gives (hostEdit [(0xFFFC#16, 0x53#8), (0xFFFD#16, 0x01#8)] { start 0x3000#16 [0xC8#8] with sp := 0xFFFC#16, f := 0x00#8 }) (fun t => t.pc == 0x3001#16 && t.cost == 8) = true := by decide

/-- V143 of 95_test_vectors.md (R390). -/
theorem test_v143_reti :
    gives (hostEdit [(0xFFFC#16, 0x50#8), (0xFFFD#16, 0x02#8)] { start 0x3000#16 [0xD9#8] with sp := 0xFFFC#16 }) (fun t => t.sp == 0xFFFE#16 && t.pc == 0x0250#16 && t.ime == .set && t.cost == 16) = true := by decide

/-- V145 of 95_test_vectors.md (R391). -/
theorem test_v145_rst_38_with_sp_0002 :
    gives ({ start 0x0200#16 [0xFF#8] with sp := 0x0002#16 }) (fun t => t.sp == 0x0000#16 && t.pc == 0x0038#16 && t.read 0x0000#16 == 0x01#8 && t.read 0x0001#16 == 0x02#8 && t.cost == 16) = true := by decide

/-- V146 of 95_test_vectors.md (R410). -/
theorem test_v146_nop :
    gives (start 0x0100#16 [0x00#8]) (fun t => t.pc == 0x0101#16 && t.cost == 4) = true := by decide

/-- V147 of 95_test_vectors.md (R411). -/
theorem test_v147_halt_nothing_pending :
    gives ({ start 0x0100#16 [0x76#8] with ime := .set }) (fun t => t.pc == 0x0101#16 && t.halted && t.cost == 4) = true := by decide

/-- V148 of 95_test_vectors.md (R411). -/
theorem test_v148_halt_bug_ime_unset_pending :
    gives (hostEdit [(0xFF0F#16, 0x01#8), (0xFFFF#16, 0x01#8)] { start 0x0100#16 [0x76#8] with ime := .unset }) (fun t => t.pc == 0x0101#16 && t.haltbug && t.cost == 4) = true := by decide

/-- V149 of 95_test_vectors.md (R412). -/
theorem test_v149_stop :
    gives (start 0x0100#16 [0x10#8, 0x00#8]) (fun t => t.pc == 0x0102#16 && t.stopped && t.cost == 4) = true := by decide

/-- V150 of 95_test_vectors.md (R413). -/
theorem test_v150_di :
    gives ({ start 0x0100#16 [0xF3#8] with ime := .set }) (fun t => t.pc == 0x0101#16 && t.ime == .unset && t.cost == 4) = true := by decide

/-- V151 of 95_test_vectors.md (R414). -/
theorem test_v151_ei_from_unset :
    gives ({ start 0x0100#16 [0xFB#8] with ime := .unset }) (fun t => t.pc == 0x0101#16 && t.ime == .scheduled && t.cost == 4) = true := by decide

/-- V153 of 95_test_vectors.md (R414). -/
theorem test_v153_ei_from_scheduled :
    gives ({ start 0x0100#16 [0xFB#8] with ime := .scheduled }) (fun t => t.pc == 0x0101#16 && t.ime == .set && t.cost == 4) = true := by decide

/-- V154 of 95_test_vectors.md (R415). -/
theorem test_v154_undefined_0xd3_noop0 :
    gives (start 0x0100#16 [0xD3#8]) (fun t => t.pc == 0x0100#16 && t.cost == 0) = true := by decide

/-- V155 of 95_test_vectors.md (R438). -/
theorem test_v155_dispatch_vblank_wins_over_timer :
    gives (hostEdit [(0xFF0F#16, 0x05#8), (0xFFFF#16, 0x05#8)] { start 0x0234#16 [0x00#8] with ime := .set, sp := 0xFFFE#16 }) (fun t => t.sp == 0xFFFC#16 && t.pc == 0x0040#16 && t.ime == .unset && t.read 0xFF0F#16 == 0x04#8 && t.read 0xFFFC#16 == 0x34#8 && t.read 0xFFFD#16 == 0x02#8 && t.cost == 20) = true := by decide

/-- V156 of 95_test_vectors.md (R438). -/
theorem test_v156_dispatch_only_joypad_enabled :
    gives (hostEdit [(0xFF0F#16, 0x1F#8), (0xFFFF#16, 0x10#8)] { start 0x0234#16 [0x00#8] with ime := .set, sp := 0xFFFE#16 }) (fun t => t.sp == 0xFFFC#16 && t.pc == 0x0060#16 && t.ime == .unset && t.read 0xFF0F#16 == 0x0F#8 && t.read 0xFFFC#16 == 0x34#8 && t.read 0xFFFD#16 == 0x02#8 && t.cost == 20) = true := by decide

/-- V157 of 95_test_vectors.md (R436). -/
theorem test_v157_ime_scheduled_no_dispatch_nop_runs_and_sets_ime :
    gives (hostEdit [(0xFF0F#16, 0x01#8), (0xFFFF#16, 0x01#8)] { start 0x0234#16 [0x00#8] with ime := .scheduled, sp := 0xFFFE#16 }) (fun t => t.pc == 0x0235#16 && t.ime == .set && t.cost == 4) = true := by decide

/-- V158 of 95_test_vectors.md (R436). -/
theorem test_v158_if_bits_7_5_are_not_requests :
    gives (hostEdit [(0xFF0F#16, 0xE0#8), (0xFFFF#16, 0x01#8)] { start 0x0234#16 [0x00#8] with ime := .set }) (fun t => t.pc == 0x0235#16 && t.cost == 4) = true := by decide

/-- R441: a halted core with IME Set and an interrupt pending wakes and dispatches in one step, 24 T-states. -/
theorem test_halted_core_wakes_and_dispatches :
    gives (hostEdit [(0xFFFF#16, 0x01#8), (0xFF0F#16, 0x01#8)] { start 0x0201#16 [0x00#8] with halted := true, ime := .set })
      (fun t => t.pc == 0x0040#16 && t.read 0xFFFC#16 == 0x01#8 && !t.halted && t.cost == 24) = true := by decide

/-- R411 example 2: under the halt bug `3E 14` at 0x0201 reads its operand one address early. -/
theorem test_halt_bug_shifts_the_operand :
    gives { start 0x0201#16 [0x3E#8, 0x14#8] with haltbug := true }
      (fun t => t.a == 0x3E#8 && t.pc == 0x0202#16 && !t.haltbug) = true := by decide

/-- R491: the first instruction step at RESET_PC costs 4 T-states more. -/
theorem test_first_step_costs_four_more :
    gives { start 0x0000#16 [0x00#8] with firstStep := true } (fun t => t.cost == 8 && !t.firstStep) = true := by decide

/-- R415 under `UNDEF_POLICY = Lock`. -/
theorem test_undefined_opcode_locks :
    gives { start 0x0100#16 [0xFD#8] with cfg := { undefPolicy := .lock } }
      (fun t => t.locked && t.pc == 0x0100#16 && t.cost == 0) = true := by decide

/-- D32: a dispatch that pushes onto IF leaves the pushed byte there. -/
theorem test_dispatch_push_onto_if_wins :
    gives (hostEdit [(0xFFFF#16, 0x01#8), (0xFF0F#16, 0x01#8)] { start 0x0234#16 [] with ime := .set, sp := 0xFF10#16 })
      (fun t => t.read 0xFF0F#16 == 0x02#8 && t.read 0xFF0E#16 == 0x34#8 && t.pc == 0x0040#16) = true := by decide

/-- R493: 1048576 machine cycles take one second. -/
theorem test_duration : duration 1048576 4194304 = 1 := by norm_num [duration]

/-! ### The hypotheses of the statements can be met -/

/-- NOP at 0x0100, nothing pending. -/
def running : State := start 0x0100#16 [0x00#8]

/-- Interrupt 2 pending and enabled. -/
def pendingState : State := hostEdit [(0xFFFF#16, 0x04#8), (0xFF0F#16, 0x1C#8)] running

theorem witness_DecodeOfEncodeIsIdentity : Instr.wellFormed (.ldAn8 0xFF#8) = true := by decide
theorem witness_EncodeOfDecodeIsIdentity : decode [0x3E#8, 0x05#8, 0x99#8] = .ok (.ldAn8 0x05#8, [0x99#8]) := by decide
theorem witness_LaterEditsWin : ∀ e ∈ [((0xFFFF#16, 2#8) : Word × Byte)], e.1 ≠ 0x0000#16 := by simp
theorem witness_CanonicalMemoriesAreEqualData :
    Memory.wf [(0, 7#8), (65535, 1#8)] = true ∧ ∀ a : Word, Memory.read [(0, 7#8), (65535, 1#8)] a = Memory.read [(0, 7#8), (65535, 1#8)] a :=
  ⟨by decide, fun _ => rfl⟩
theorem witness_ResetLeavesSpecifiedState :
    ({ resetMem := [(0x0010#16, 1#8), (0x0010#16, 2#8)] } : Config).resetMem = [(0x0010#16, 1#8)] ++ (0x0010#16, 2#8) :: [] ∧
      ∀ e ∈ ([] : List (Word × Byte)), e.1 ≠ 0x0010#16 := ⟨rfl, by simp⟩
theorem witness_StepRunsDecodedInstruction :
    Active running ∧ ¬(running.ime = .set ∧ pend running ≠ 0#8) ∧ ∃ t, exec (current running) running = .next t :=
  ⟨by unfold Active; decide, by decide, _, rfl⟩
theorem witness_StoppedOrLockedDoesNothing_stopped : ({ running with stopped := true } : State).stopped = true := by decide
theorem witness_StoppedOrLockedDoesNothing_locked : ({ running with locked := true } : State).locked = true := by decide
theorem witness_OnlyResetUnlocks :
    ({ running with locked := true } : State).locked = true ∧ (∃ t, step { running with locked := true } = .next t) ∧
      ∃ t, loadBulk 0 1 [1#8] { running with locked := true } = .next t := ⟨by decide, ⟨_, rfl⟩, _, rfl⟩
theorem witness_StopWakeResumesAfterStop :
    Active (start 0xFFFF#16 [0x10#8, 0xAB#8]) ∧
      ¬((start 0xFFFF#16 [0x10#8, 0xAB#8]).ime = .set ∧ pend (start 0xFFFF#16 [0x10#8, 0xAB#8]) ≠ 0#8) ∧
      current (start 0xFFFF#16 [0x10#8, 0xAB#8]) = .stop 0xAB#8 := ⟨by unfold Active; decide, by decide, by decide⟩
theorem witness_HaltedCoreIdlesOrWakes_idle :
    running.locked = false ∧ running.stopped = false ∧ ({ running with halted := true } : State).halted = true ∧
      pend { running with halted := true } = 0#8 := by decide
theorem witness_HaltedCoreIdlesOrWakes_wake :
    pendingState.locked = false ∧ pendingState.stopped = false ∧ ({ pendingState with halted := true } : State).halted = true ∧
      pend { pendingState with halted := true } ≠ 0#8 := by decide
theorem witness_DispatchTakesLowestPending :
    Active { pendingState with ime := .set } ∧ pend { pendingState with ime := .set } ≠ 0#8 ∧
      pendingState.sp - 1 ≠ 0xFF0F#16 ∧ pendingState.sp - 2 ≠ 0xFF0F#16 := ⟨by unfold Active; decide, by decide, by decide, by decide⟩
theorem witness_InterruptsWaitOneInstruction_ei : running.ime = .unset := by decide
theorem witness_InterruptsWaitOneInstruction_scheduled :
    Active { pendingState with ime := .scheduled } ∧ ({ pendingState with ime := .scheduled } : State).ime = .scheduled :=
  ⟨by unfold Active; decide, by decide⟩
theorem witness_OtherInstructionsFallThrough : isTransfer (.stop 0x00#8) = false ∧ isTransfer .undefD3 = false := by decide
theorem witness_EveryStepKeepsInv : pendingState.Inv ∧ ∃ t, step pendingState = .next t :=
  ⟨⟨by decide, by decide, by decide, by decide, by decide, by decide, by decide, by decide, by decide, by decide⟩, _, rfl⟩
theorem witness_HostInputsKeepInv : pendingState.Inv ∧ ∃ t, loadBulk 65535 1 [1#8] pendingState = .next t :=
  ⟨witness_EveryStepKeepsInv.1, _, rfl⟩
theorem witness_LatchedStepRunsInstruction :
    State.Inv { pendingState with haltbug := true } ∧ current { pendingState with haltbug := true } ≠ .halt :=
  ⟨⟨by decide, by decide, by decide, by decide, by decide, by decide, by decide, by decide, by decide, by decide⟩, by decide⟩
theorem witness_ParametersFirstStepAndCost : ∃ t, step { running with firstStep := true } = .next t := ⟨_, rfl⟩
theorem witness_LoadBulkCopiesBytes_refused : 65536 < 65535 + 2 := by decide
theorem witness_LoadBulkCopiesBytes_copied :
    65535 + 1 ≤ 65536 ∧ 0 < min 1 [7#8].length ∧ (0xFFFE#16 : Word).toNat < 65535 ∧ 0 + min 2 [7#8].length ≤ (0x0001#16 : Word).toNat := by
  decide
theorem witness_ExecuteRunsOpcode : ({ pendingState with halted := true, ime := .set } : State).haltbug = false := by decide
theorem witness_AddSetsResultAndFlags :
    (AluOp.adc = if true then .adc else .add) ∧ 1 = bit (true && flag { running with a := 0xFF#8, f := 0x10#8 } .c) ∧
      (256 : Nat) = ({ running with a := 0xFF#8, f := 0x10#8 } : State).a.toNat +
        (aluValue { running with a := 0xFF#8, f := 0x10#8 } (.imm 0x00#8)).toNat + 1 := by decide
theorem witness_SubtractSetsResultAndFlags :
    (AluOp.sbc = .sub ∨ AluOp.sbc = .sbc ∨ AluOp.sbc = .cp) ∧ 1 = bit (decide (AluOp.sbc = .sbc) && flag { running with f := 0x10#8 } .c) ∧
      0 = bit (decide (AluOp.cp = .sbc) && flag { running with f := 0x10#8 } .c) := by decide
theorem witness_LogicSetsResultAndFlags :
    (0x0A#8 : Byte) = ({ running with a := 0x5A#8 } : State).a &&& aluValue { running with a := 0x5A#8 } (.imm 0x0F#8) ∧
      (0x55#8 : Byte) = ({ running with a := 0x5A#8 } : State).a ^^^ aluValue { running with a := 0x5A#8 } (.imm 0x0F#8) ∧
      (0x5F#8 : Byte) = ({ running with a := 0x5A#8 } : State).a ||| aluValue { running with a := 0x5A#8 } (.imm 0x0F#8) := by decide
theorem witness_DecimalAdjust_after_addition :
    flag { running with a := 0x9A#8 } .n = false ∧
      true = (flag { running with a := 0x9A#8 } .c || decide (0x99 < ({ running with a := 0x9A#8 } : State).a.toNat)) ∧
      (256 : Int) = (({ running with a := 0x9A#8 } : State).a.toNat : Int) + (if true then 0x60 else 0) +
        (if (flag { running with a := 0x9A#8 } .h || decide (9 < ({ running with a := 0x9A#8 } : State).a.toNat % 16)) = true then 0x06 else 0) := by
  decide
theorem witness_DecimalAdjust_after_subtraction :
    flag { running with a := 0x2D#8, f := 0x60#8 } .n = true ∧ false = flag { running with a := 0x2D#8, f := 0x60#8 } .c ∧
      (0x27 : Int) = (({ running with a := 0x2D#8, f := 0x60#8 } : State).a.toNat : Int) -
        (if flag { running with a := 0x2D#8, f := 0x60#8 } .c then 0x60 else 0) -
        (if flag { running with a := 0x2D#8, f := 0x60#8 } .h then 0x06 else 0) := by decide
theorem witness_DecimalArithmeticIsCorrect :
    ({ running with a := 0x99#8, b := 0x10#8 } : State).a = bcd 99 ∧ ({ running with a := 0x99#8, b := 0x10#8 } : State).b = bcd 10 := by
  decide
theorem witness_RotateAccumulator :
    (Instr.rlca = .rlca ∧ RotOp.rlc = .rlc ∧ 0x07#8 = 0x07#8) ∧ (Instr.rrca = .rrca ∧ RotOp.rrc = .rrc ∧ 0x0F#8 = 0x0F#8) ∧
      (Instr.rla = .rla ∧ RotOp.rl = .rl ∧ 0x17#8 = 0x17#8) ∧ (Instr.rra = .rra ∧ RotOp.rr = .rr ∧ 0x1F#8 = 0x1F#8) := by decide
theorem witness_conditions_taken_and_not : cond running .nz = true ∧ cond running .z = false ∧ cond running .nc = true ∧ cond running .c = false := by
  decide
theorem witness_HaltAndStop :
    (auto pendingState ≠ .set ∧ pend pendingState ≠ 0#8) ∧ ¬(auto running ≠ .set ∧ pend running ≠ 0#8) := by decide
theorem witness_UndefinedOpcodeIsZeroLengthNoOp : Instr.undefFD ∈ Instr.undefined := by decide

end Sys2Proof.Tests
end

