-- ==== Sys2Proof/Proofs/Control.lean ====
section
/-! PROOFS. Proofs/Control.lean: what each instruction writes of IME, the wait states and the halt-bug latch, said once over all
instructions, and that its cost is whole machine cycles. -/

namespace Sys2Proof.Proofs

open Sys2Proof.Machine Sys2Proof.Claims

/-! ### The claims' words and the model's -/

theorem auto_eq_autoIme (s : State) : auto s = autoIme s.ime := by
  unfold auto
  cases s.ime <;> rfl

theorem autoIme_ne_scheduled (i : IME) : autoIme i ≠ .scheduled := by
  cases i <;> decide

theorem autoIme_eq_unset_of_ne_set {i : IME} (h : autoIme i ≠ .set) : autoIme i = .unset := by
  cases i with
  | unset => rfl
  | scheduled => exact absurd rfl h
  | set => exact absurd rfl h

/-! ### The control part of a delta -/

/-- The fields of a State-Delta (R45) that decide how the core goes on: the explicit IME transition, the three wait states it enters, and
the halt-bug latch. -/
structure Control where
  ime : Option IME := none
  halt : Bool := false
  stop : Bool := false
  lock : Bool := false
  haltbug : Bool := false

/-- The control part of a delta. -/
def deltaControl (d : Delta) : Control :=
  { ime := d.ime, halt := d.halt, stop := d.stop, lock := d.lock, haltbug := d.haltbug }

/-- The control part of every instruction's delta: only DI, RETI, EI, HALT, STOP and the undefined opcodes have one (R390, R411 to R415). -/
def control (i : Instr) (s : State) : Control :=
  match i with
  | .di => { ime := some .unset }
  | .reti => { ime := some .set }
  | .ei => { ime := if s.ime = .unset then some .scheduled else none }
  | .halt => { halt := !haltBug s, haltbug := haltBug s }
  | .stop _ => { stop := true }
  | i => { lock := decide (i ∈ Instr.undefined) && decide (s.cfg.undefPolicy = .lock) }

/-- The answer `o` is the application to `s` of a delta with control part `c` and a cost in whole machine cycles (R494). -/
def Controls (c : Control) (o : Out) (s : State) : Prop :=
  ∃ d, o = .next (applyDelta d s) ∧ deltaControl d = c ∧ d.cost % 4 = 0

/-- A conditional instruction has the control part that both its outcomes have. -/
theorem controls_ite {b : Bool} {c : Control} {o p : Out} {s : State} (ho : Controls c o s) (hp : Controls c p s) :
    Controls c (if b then o else p) s := by
  cases b
  · exact hp
  · exact ho

/-! ### Building a delta leaves its cost -/

@[simp] theorem setR16_cost (d : Delta) (p : R16) (w : Word) : (d.setR16 p w).cost = d.cost := by cases p <;> rfl

@[simp] theorem setR8_cost (d : Delta) (s : State) (z : R8) (v : Byte) : (d.setR8 s z v).cost = d.cost := by cases z <;> rfl

@[simp] theorem setAluFlags_cost (d : Delta) (o : AluResult) : (d.setAluFlags o).cost = d.cost := rfl

@[simp] theorem push16_cost (d : Delta) (s : State) (w : Word) : (d.push16 s w).cost = d.cost := rfl

@[simp] theorem pop16_cost (d : Delta) (s : State) : (d.pop16 s).cost = d.cost := rfl

@[simp] theorem returnFromInterrupt_cost (d : Delta) (s : State) : (d.returnFromInterrupt s).cost = d.cost := rfl

@[simp] theorem postModify_cost (d : Delta) (s : State) (m : R16Mem) : (d.postModify s m).cost = d.cost := by cases m <;> rfl

@[simp] theorem spOffsetDelta_cost (k : Nat) (e : Byte) (s : State) : (spOffsetDelta k e s).cost = k := rfl

@[simp] theorem r8Cost_reg (r : Reg) (j k : Nat) : r8Cost (.reg r) j k = j := rfl

@[simp] theorem r8Cost_memHL (j k : Nat) : r8Cost .memHL j k = k := rfl

@[simp] theorem aluCost_mod_four (src : AluSrc) : aluCost src % 4 = 0 := by cases src <;> simp [aluCost]

/-! ### Every instruction -/

/-- Whatever instruction the byte after 0xCB selects, its control part is empty (R128, R344). -/
theorem extended_controls (b1 : Byte) (s : State) : Controls {} (extended b1 s) s := by
  unfold extended
  generalize R8.ofCode (zField b1) = z
  split
  · cases z <;> exact ⟨_, rfl, rfl, by simp⟩
  split
  · cases z <;> exact ⟨_, rfl, rfl, by simp⟩
  split
  · cases z <;> exact ⟨_, rfl, rfl, by simp⟩
  · cases z <;> exact ⟨_, rfl, rfl, by simp⟩

/-- HALT's own condition for the halt bug is the claims' (R411). -/
theorem haltCore_controls (s : State) : Controls { halt := !haltBug s, haltbug := haltBug s } (haltCore s) s := by
  have same : haltBug s = (decide (autoIme s.ime ≠ .set) && decide (s.pending ≠ 0#8)) := by
    rw [haltBug, auto_eq_autoIme]; rfl
  rw [same]
  exact ⟨_, rfl, rfl, by simp⟩

/-- Every instruction of every state answers the application of a delta whose control part is `control`. -/
theorem exec_controls (i : Instr) (s : State) : Controls (control i s) (exec i s) s := by
  cases i
  case prefixCB b1 => exact extended_controls b1 s
  case halt => exact haltCore_controls s
  case jrNZe8 | jrZe8 | jrNCe8 | jrCe8 | jpNZa16 | jpZa16 | jpNCa16 | jpCa16 | callNZa16 | callZa16 | callNCa16 | callCa16 |
      retNZ | retZ | retNC | retC =>
    exact controls_ite ⟨_, rfl, rfl, by simp⟩ ⟨_, rfl, rfl, by simp⟩
  all_goals exact ⟨_, rfl, rfl, by simp⟩

end Sys2Proof.Proofs
end

