-- ==== Sys2Proof/Proofs/Invariant.lean ====
section
/-! PROOFS. Proofs/Invariant.lean: the invariant of the core, kept by each part of a step and so by every step. -/

namespace Sys2Proof.Proofs

open Sys2Proof.Machine Sys2Proof.Claims

/-! ### What a control part may combine -/

/-- The combinations of a control part that the invariant needs: the wait states exclude one another (R452); the latch excludes them, and
needs IME not Set after the automatic transition (R411); neither comes with an explicit IME transition; locking needs the policy Lock
(R415). -/
structure Control.Sound (c : Control) (s : State) : Prop where
  haltOrStop : (c.halt && c.stop) = false
  haltOrLock : (c.halt && c.lock) = false
  stopOrLock : (c.stop && c.lock) = false
  waitLatch : (c.halt || c.stop || c.lock) = true → c.haltbug = false
  waitIme : (c.halt || c.stop || c.lock) = true → c.ime = none
  latchIme : c.haltbug = true → c.ime = none ∧ autoIme s.ime ≠ .set
  lockPolicy : c.lock = true → s.cfg.undefPolicy = .lock

theorem autoIme_ne_set_of_haltBug {s : State} (h : haltBug s = true) : autoIme s.ime ≠ .set := by
  rw [haltBug, auto_eq_autoIme, Bool.and_eq_true] at h
  exact of_decide_eq_true h.1

/-- DI, RETI and EI have only their transition, STOP and an undefined opcode only their wait state, and HALT halts or sets the latch. -/
theorem control_sound (i : Instr) (s : State) : (control i s).Sound s := by
  unfold control
  split
  case h_1 | h_2 | h_3 | h_5 => constructor <;> simp
  case h_4 => constructor <;> simp +contextual [autoIme_ne_set_of_haltBug]
  case h_6 => constructor <;> simp

/-! ### The parts of a step -/

/-- The invariant speaks of the returned cost only as a whole number of machine cycles. -/
theorem inv_withCost {s : State} {k : Nat} (hs : s.Inv) (hk : k % 4 = 0) : State.Inv { s with cost := k } :=
  { hs with costUnit := hk }

theorem inv_addWake {s : State} {wake : Nat} (hs : s.Inv) (hw : wake % 4 = 0) : (addWake wake s).Inv := by
  have hcost := hs.costUnit
  exact inv_withCost hs (by omega)

theorem firstStepCharge_mod_four (s : State) : firstStepCharge s % 4 = 0 := by
  unfold firstStepCharge
  split <;> rfl

theorem inv_endInstructionStep (s : State) {t : State} (ht : t.Inv) : (endInstructionStep s t).Inv := by
  have hcost := ht.costUnit
  have hcharge := firstStepCharge_mod_four s
  have hsum : (t.cost + firstStepCharge s) % 4 = 0 := by omega
  exact { ht with costUnit := hsum }

/-- A core that waits when its `halted` is dropped waits with it, too. -/
theorem waits_of_waits_unhalted {s : State} (h : (false || s.stopped || s.locked) = true) :
    (s.halted || s.stopped || s.locked) = true := by
  cases s.halted with
  | false => exact h
  | true => rfl

/-- Waking only takes a wait state away. -/
theorem inv_wakeUp {s : State} (hs : s.Inv) : (wakeUp s).Inv :=
  { hs with
    waitIme := fun h => hs.waitIme (waits_of_waits_unhalted h)
    haltedOrStopped := rfl
    haltedOrLocked := rfl
    waitLatch := fun h => hs.waitLatch (waits_of_waits_unhalted h) }

/-- Taking an interrupt leaves IME Unset, which both the latch and a wait state allow. -/
theorem inv_takeInterrupt {s : State} (hs : s.Inv) : (takeInterrupt s).Inv :=
  { hs with
    memWf := Memory.wf_writeAll _ hs.memWf
    haltbugIme := fun _ => rfl
    waitIme := fun _ => by simp
    haltedOrStopped := rfl
    haltedOrLocked := rfl
    waitLatch := fun h => hs.waitLatch (waits_of_waits_unhalted h)
    costUnit := by simp }

/-- The wait states of an active core after a delta are those that the delta enters. -/
theorem applyDelta_waits {s : State} (d : Delta) (active : Active s) :
    (applyDelta d s).halted = d.halt ∧ (applyDelta d s).stopped = d.stop ∧ (applyDelta d s).locked = d.lock := by
  obtain ⟨hlocked, hstopped, hhalted⟩ := active
  simp [hlocked, hstopped, hhalted]

/-- A delta without an explicit IME transition leaves IME to the automatic one (R46). -/
theorem applyDelta_ime_of_none {s : State} {d : Delta} (h : d.ime = none) : (applyDelta d s).ime = autoIme s.ime := by
  rw [applyDelta_ime, h]
  rfl

/-- Applying a delta with a sound control part to an active core. -/
theorem inv_applyDelta {s : State} {d : Delta} (hs : s.Inv) (active : Active s) (hd : (deltaControl d).Sound s)
    (hcost : d.cost % 4 = 0) : (applyDelta d s).Inv := by
  obtain ⟨hhalted, hstopped, hlocked⟩ := applyDelta_waits d active
  constructor
  case memWf => exact wf_applyDelta d hs.memWf
  case fLow => exact nextF_low d s.f hs.fLow
  case haltbugIme =>
    intro hlatch
    obtain ⟨himplicit, hauto⟩ := hd.latchIme hlatch
    rw [applyDelta_ime_of_none himplicit]
    exact autoIme_eq_unset_of_ne_set hauto
  case waitIme =>
    intro hwait
    rw [hhalted, hstopped, hlocked] at hwait
    rw [applyDelta_ime_of_none (hd.waitIme hwait)]
    exact autoIme_ne_scheduled s.ime
  case haltedOrStopped => rw [hhalted, hstopped]; exact hd.haltOrStop
  case haltedOrLocked => rw [hhalted, hlocked]; exact hd.haltOrLock
  case stoppedOrLocked => rw [hstopped, hlocked]; exact hd.stopOrLock
  case waitLatch => rw [hhalted, hstopped, hlocked]; exact hd.waitLatch
  case lockedPolicy => rw [hlocked, applyDelta_cfg]; exact hd.lockPolicy
  case costUnit => exact hcost

theorem inv_of_exec {i : Instr} {s t : State} (hs : s.Inv) (active : Active s) (h : exec i s = .next t) : t.Inv := by
  obtain ⟨d, hexec, hcontrol, hcost⟩ := exec_controls i s
  obtain rfl : applyDelta d s = t := Host.Outcome.next.inj (hexec.symm.trans h)
  exact inv_applyDelta hs active (hcontrol ▸ control_sound i s) hcost

/-! ### Every step -/

/-- Settles O22, over the five things a step can do (R135). -/
theorem everyStepKeepsInv : Obligations.EveryStepKeepsInv := by
  intro s t hs hstep
  rcases step_cases hstep with ⟨-, rfl⟩ | ⟨hlocked, hstopped, ⟨-, -, rfl⟩ | ⟨wake, hwake, hawake⟩⟩
  · exact inv_withCost hs rfl
  · exact inv_withCost hs rfl
  · have hunit : wake % 4 = 0 := by omega
    rcases hawake with ⟨-, -, rfl⟩ | ⟨-, d, hexec, rfl⟩
    · exact inv_addWake (inv_takeInterrupt (inv_wakeUp hs)) hunit
    · have active : Active (wakeUp s) := ⟨hlocked, hstopped, rfl⟩
      exact inv_addWake (inv_endInstructionStep _ (inv_of_exec (inv_wakeUp hs) active hexec)) hunit

end Sys2Proof.Proofs
end

