-- ==== Sys2Proof/Proofs/Step.lean ====
section
/-! PROOFS. Proofs/Step.lean: the IME's transitions, EI's delay, the way out of `locked`, and what a step does not touch or read. -/

namespace Sys2Proof.Proofs

open Sys2Proof.Machine Sys2Proof.Claims

/-! ### IME -/

/-- IME after the explicit transition of an instruction, if it has one, else after the automatic one (R40, R46). -/
theorem nextIme_control (i : Instr) (s : State) :
    nextIme (control i s).ime s.ime = (if i = .di then .unset else if i = .reti then .set
      else if i = .ei ∧ s.ime = .unset then .scheduled else auto s) := by
  rw [auto_eq_autoIme]
  unfold control
  split
  case h_1 => rfl
  case h_2 => rfl
  case h_3 => cases s.ime <;> rfl
  case h_4 => rfl
  case h_5 => rfl
  case h_6 hdi hreti hei _ _ =>
    rw [if_neg hdi, if_neg hreti, if_neg (fun h => hei h.1)]
    rfl

/-- Settles O19, from the control part of every instruction. -/
theorem imeTransitionsAreExactlyThese : Obligations.ImeTransitionsAreExactlyThese := by
  intro i s
  obtain ⟨d, hexec, hcontrol, -⟩ := exec_controls i s
  have hime : d.ime = (control i s).ime := congrArg Control.ime hcontrol
  exact ⟨applyDelta d s, hexec, by rw [applyDelta_ime, hime, nextIme_control]⟩

/-- An active core that does not dispatch runs the instruction at PC, with the first-step rule around it (R135, R136, R491). -/
theorem step_of_active {s t : State} (active : Active s) (hd : dispatches s = false) (h : exec (current s) s = .next t) :
    step s = .next (ended s t) := by
  obtain ⟨hlocked, hstopped, hhalted⟩ := active
  have hexec : exec (decodeBytes s.fetchOpcode s.fetchB1 s.fetchB2) s = .next t := h
  simp only [step, driverStep, activeStep, instructionStep, instructionStepOn, hlocked, hstopped, hhalted, hd, hexec]
  rfl

/-- Settles O18: a Scheduled core never meets the condition of a dispatch (R436), and IME moves as O19 says. -/
theorem interruptsWaitOneInstruction : Obligations.InterruptsWaitOneInstruction := by
  constructor
  · intro s hunset
    obtain ⟨t, hexec, hime⟩ := imeTransitionsAreExactlyThese .ei s
    exact ⟨t, hexec, by simpa [hunset] using hime⟩
  · intro s active hscheduled
    have hd : dispatches s = false := by simp [dispatches, hscheduled]
    obtain ⟨t, hexec, hime⟩ := imeTransitionsAreExactlyThese (current s) s
    exact ⟨t, hexec, step_of_active active hd hexec, by simpa [auto, hscheduled] using hime⟩

/-! ### The way out of `locked` -/

theorem step_of_locked {s : State} (h : s.locked = true) : step s = .next (noStep s) := by
  simp [step, driverStep, h]

/-- A `load_bulk` that is not refused gives the state with the bytes (R97). -/
theorem withBytes_of_loadBulk {start len : Nat} {bytes : List Byte} {s t : State} (h : loadBulk start len bytes s = .next t) :
    s.withBytes (BitVec.ofNat 16 start) (bytes.take len) = t := by
  unfold loadBulk at h
  split at h
  · exact Host.Outcome.next.inj h
  · cases h

/-- Settles O14: each act but reset leaves the field, and reset writes it. -/
theorem onlyResetUnlocks : Obligations.OnlyResetUnlocks := by
  intro s hlocked
  refine ⟨?step, hlocked, fun _ => hlocked, fun _ => hlocked, ?loadBulk, rfl⟩
  case step =>
    intro t hstep
    obtain rfl : noStep s = t := Host.Outcome.next.inj ((step_of_locked hlocked).symm.trans hstep)
    exact hlocked
  case loadBulk =>
    intro start len bytes t hload
    rw [← withBytes_of_loadBulk hload, withBytes_locked, hlocked]

/-! ### The returned cost is no input (R54) -/

theorem writeRegs_withCost (s : State) (k : Nat) (l : List (Reg × Byte)) :
    State.writeRegs { s with cost := k } l = { s.writeRegs l with cost := k } := by
  induction l generalizing s with
  | nil => rfl
  | cons w rest ih =>
    have hset : State.setReg { s with cost := k } w.1 w.2 = { s.setReg w.1 w.2 with cost := k } := by cases w.1 <;> rfl
    rw [writeRegs_cons, writeRegs_cons, hset, ih]

theorem applyDelta_withCost (d : Delta) (s : State) (k : Nat) : applyDelta d { s with cost := k } = applyDelta d s := by
  simp only [applyDelta, writeRegs_withCost]
  rfl

/-- The instruction that the byte after 0xCB selects does not read the field: its operand is one of eight (R124, R344). -/
theorem extended_withCost (b1 : Byte) (s : State) (k : Nat) : extended b1 { s with cost := k } = extended b1 s := by
  unfold extended
  generalize R8.ofCode (zField b1) = z
  cases z with
  | memHL => rfl
  | reg r => cases r <;> rfl

/-- No instruction reads the field: with its operands fixed, its answer is the same term. -/
theorem exec_withCost (i : Instr) (s : State) (k : Nat) : exec i { s with cost := k } = exec i s := by
  cases i
  case prefixCB b1 => exact extended_withCost b1 s k
  all_goals rfl

theorem activeStep_withCost (wake : Nat) (s : State) (k : Nat) : activeStep wake { s with cost := k } = activeStep wake s := by
  have hexec := exec_withCost (decodeBytes s.fetchOpcode s.fetchB1 s.fetchB2) s k
  have hinstruction : instructionStep { s with cost := k } = instructionStep s := congrArg (mapNext (endInstructionStep s)) hexec
  rw [activeStep, hinstruction]
  rfl

theorem step_withCost (s : State) (k : Nat) : step { s with cost := k } = step s := by
  have hawake : activeStep 4 (wakeUp { s with cost := k }) = activeStep 4 (wakeUp s) := activeStep_withCost 4 (wakeUp s) k
  have hactive := activeStep_withCost 0 s k
  rw [step, driverStep, hawake, hactive]
  rfl

/-! ### The parameters and `first_step` -/

/-- No step changes the parameters (log 1). -/
theorem step_cfg {s t : State} (h : step s = .next t) : t.cfg = s.cfg := by
  rcases step_cases h with ⟨-, rfl⟩ | ⟨-, -, ⟨-, -, rfl⟩ | ⟨_, -, ⟨-, -, rfl⟩ | ⟨-, d, -, rfl⟩⟩⟩
  · rfl
  · rfl
  · rfl
  · exact applyDelta_cfg d (wakeUp s)

theorem pend_eq_pending (s : State) : pend s = s.pending := rfl

theorem dispatches_iff (s : State) : dispatches s = true ↔ s.ime = .set ∧ s.pending ≠ 0#8 := by
  simp [dispatches]

/-- `first_step` stays in a step that runs no instruction, and is cleared in one that does (R49, R491). -/
theorem step_firstStep {s t : State} (h : step s = .next t) :
    t.firstStep = (s.firstStep && (s.locked || s.stopped || (s.halted && decide (pend s = 0#8)) || dispatches s)) := by
  rw [pend_eq_pending]
  rcases step_cases h with ⟨hlocked | hstopped, rfl⟩ | ⟨hlocked, hstopped, ⟨hhalted, hpend, rfl⟩ | ⟨wake, hwake, hawake⟩⟩
  · simp [noStep, hlocked]
  · simp [noStep, hstopped]
  · simp [idleStep, hhalted, hpend]
  rcases hawake with ⟨hime, hpend, rfl⟩ | ⟨hdispatches, d, -, rfl⟩
  · have hdispatches : dispatches s = true := (dispatches_iff s).mpr ⟨hime, hpend⟩
    simp [addWake, wakeUp, hdispatches]
  · have hbusy : (s.halted && decide (s.pending = 0#8)) = false := by
      rcases hwake with ⟨-, hpend, -⟩ | ⟨hhalted, -⟩
      · simp [hpend]
      · simp [hhalted]
    simp [addWake, endInstructionStep, hlocked, hstopped, hbusy, hdispatches]

/-- Settles O26, from the five things a step can do, and from what an instruction reads. -/
theorem parametersFirstStepAndCost : Obligations.ParametersFirstStepAndCost :=
  ⟨fun _ _ h => ⟨step_cfg h, step_firstStep h⟩, step_withCost⟩

end Sys2Proof.Proofs
end

