-- ==== Sys2Proof/Proofs/Views.lean ====
section
/-! PROOFS. Proofs/Views.lean: F as the byte of the Flag Set, and the register pairs as numbers. -/

namespace Sys2Proof.Proofs

open Sys2Proof.Machine

theorem fromByte_toByte (f : FlagSet) : FlagSet.fromByte f.toByte = f := by
  obtain ⟨z, n, h, c⟩ := f
  revert z n h c
  decide

theorem toByte_fromByte (v : Byte) : (FlagSet.fromByte v).toByte = v &&& 0xF0#8 := by
  revert v
  decide

theorem readF_eq (s : State) : s.readF = s.f &&& 0xF0#8 := toByte_fromByte s.f

/-- A pair is the two bytes one after the other. -/
theorem pair_eq_append (h l : Byte) : pair h l = h ++ l := by
  rw [BitVec.append_def, BitVec.shiftLeftZeroExtend_eq]
  rfl

theorem pair_toNat (h l : Byte) : (pair h l).toNat = 256 * h.toNat + l.toNat := by
  rw [pair_eq_append, BitVec.toNat_append, ← Nat.shiftLeft_add_eq_or_of_lt l.isLt, Nat.shiftLeft_eq]
  omega

/-- Settles O7: a read of F is the round trip of its byte, and a pair is an append. -/
theorem flagByteAndPairViews : Obligations.FlagByteAndPairViews :=
  ⟨fromByte_toByte, toByte_fromByte, fun s =>
    ⟨readF_eq s, pair_toNat s.a s.readF, pair_toNat s.b s.c, pair_toNat s.d s.e, pair_toNat s.h s.l⟩⟩

end Sys2Proof.Proofs
end

