-- ==== Sys2Proof/Proofs/Memory.lean ====
section
/-! PROOFS. Proofs/Memory.lean: the last edit of an address wins, and two canonical memories that read alike are the same list. -/

namespace Sys2Proof.Proofs

open Sys2Proof.Machine

/-! ### Edit lists -/

/-- An edit that no later one overrides is what its address reads as (R84). -/
theorem read_writeAll_last (m : Memory) (before : List (Word × Byte)) {after : List (Word × Byte)} {a : Word} (v : Byte)
    (h : ∀ e ∈ after, e.1 ≠ a) : (m.writeAll (before ++ (a, v) :: after)).read a = v := by
  rw [Memory.writeAll_append, Memory.writeAll_cons, Memory.read_writeAll_of_notMem _ after a h, Memory.read_write_same]

/-- Settles O8. -/
theorem laterEditsWin : Obligations.LaterEditsWin := fun m before after a v h =>
  ⟨read_writeAll_last m before v h, Memory.read_writeAll_of_notMem m after a h⟩

/-! ### Canonical memories -/

/-- A canonical memory lists no address below its first key and none past 0xFFFF. -/
theorem get_of_outside {low k : Nat} {m : Memory} (hm : Memory.wfFrom low m = true) (hk : k < low ∨ 65536 ≤ k) :
    m.get k = Memory.unlisted := by
  induction m generalizing low with
  | nil => rfl
  | cons cell rest ih =>
    obtain ⟨k', v⟩ := cell
    obtain ⟨hlow, hbound, -, hrest⟩ := (Memory.wfFrom_cons low k' v rest).mp hm
    rw [Memory.get_cons, if_neg (by omega)]
    exact ih hrest (by omega)

/-- The address of a canonical memory's first cell does not read as unlisted. -/
theorem get_head_ne_unlisted {low k : Nat} {v : Byte} {rest : Memory} (hm : Memory.wfFrom low ((k, v) :: rest) = true) :
    Memory.get ((k, v) :: rest) k ≠ Memory.unlisted := by
  obtain ⟨-, -, hv, -⟩ := (Memory.wfFrom_cons low k v rest).mp hm
  rwa [Memory.get_cons, if_pos rfl]

/-- The first key of a canonical memory is the least address that it lists. -/
theorem head_le_of_get_ne_unlisted {low k j : Nat} {v : Byte} {rest : Memory}
    (hm : Memory.wfFrom low ((k, v) :: rest) = true) (hj : Memory.get ((k, v) :: rest) j ≠ Memory.unlisted) : k ≤ j := by
  obtain ⟨-, hk, hv, hrest⟩ := (Memory.wfFrom_cons low k v rest).mp hm
  have hfrom : Memory.wfFrom k ((k, v) :: rest) = true := (Memory.wfFrom_cons k k v rest).mpr ⟨le_rfl, hk, hv, hrest⟩
  by_contra hlt
  exact hj (get_of_outside hfrom (by omega))

/-- Canonical memories with the same bytes are the same list: their first keys are the same least listed address, and their rests have
the same bytes again. -/
theorem eq_of_get_eq {low low' : Nat} {m n : Memory} (hm : Memory.wfFrom low m = true) (hn : Memory.wfFrom low' n = true)
    (h : ∀ k, m.get k = n.get k) : m = n := by
  induction m generalizing low low' n with
  | nil =>
    cases n with
    | nil => rfl
    | cons cell rest => exact absurd (h cell.1).symm (get_head_ne_unlisted hn)
  | cons cell rest ih =>
    obtain ⟨k, v⟩ := cell
    cases n with
    | nil => exact absurd (h k) (get_head_ne_unlisted hm)
    | cons cell' rest' =>
      obtain ⟨k', v'⟩ := cell'
      have hle : k ≤ k' := head_le_of_get_ne_unlisted hm (h k' ▸ get_head_ne_unlisted hn)
      have hge : k' ≤ k := head_le_of_get_ne_unlisted hn (h k ▸ get_head_ne_unlisted hm)
      obtain rfl : k = k' := by omega
      obtain rfl : v = v' := by simpa [Memory.get_cons] using h k
      obtain ⟨-, -, -, hrest⟩ := (Memory.wfFrom_cons low k v rest).mp hm
      obtain ⟨-, -, -, hrest'⟩ := (Memory.wfFrom_cons low' k v rest').mp hn
      have htail : ∀ j, Memory.get rest j = Memory.get rest' j := by
        intro j
        by_cases hj : k = j
        · rw [get_of_outside hrest (by omega), get_of_outside hrest' (by omega)]
        · simpa [Memory.get_cons, hj] using h j
      rw [ih hrest hrest' htail]

/-- Settles O9: reads reach every key below 65536, and a canonical memory lists no other. -/
theorem canonicalMemoriesAreEqualData : Obligations.CanonicalMemoriesAreEqualData := by
  intro m n hm hn hread
  refine eq_of_get_eq hm hn fun k => ?_
  by_cases hk : k < 65536
  · simpa [Memory.read, Nat.mod_eq_of_lt hk] using hread (BitVec.ofNat 16 k)
  · rw [get_of_outside hm (by omega), get_of_outside hn (by omega)]

end Sys2Proof.Proofs
end

