-- ==== Sys2Proof/Proofs/HostInputs.lean ====
section
/-! PROOFS. Proofs/HostInputs.lean: `load_bulk` as one edit list, its bytes, and the invariant under the host's inputs. -/

namespace Sys2Proof.Proofs

open Sys2Proof.Machine

/-! ### `load_bulk` as an edit list -/

/-- The edits of a bulk copy (R97): byte `i` at `start + i`. -/
def bulkEdits (start : Nat) (l : List Byte) : List (Word × Byte) := l.mapIdx fun i v => (BitVec.ofNat 16 (start + i), v)

theorem bulkEdits_append (start : Nat) (l l' : List Byte) :
    bulkEdits start (l ++ l') = bulkEdits start l ++ bulkEdits (start + l.length) l' := by
  simp [bulkEdits, List.mapIdx_append, Nat.add_assoc, Nat.add_comm l.length]

theorem bulkEdits_cons (start : Nat) (v : Byte) (rest : List Byte) :
    bulkEdits start (v :: rest) = (BitVec.ofNat 16 start, v) :: bulkEdits (start + 1) rest :=
  bulkEdits_append start [v] rest

theorem withBytes_eq_hostEdit (s : State) (start : Nat) (l : List Byte) :
    s.withBytes (BitVec.ofNat 16 start) l = hostEdit (bulkEdits start l) s := by
  induction l generalizing s start with
  | nil => rfl
  | cons v rest ih =>
    have hnext : BitVec.ofNat 16 start + 1 = BitVec.ofNat 16 (start + 1) := (BitVec.ofNat_add start 1).symm
    rw [State.withBytes, hnext, ih, bulkEdits_cons]
    rfl

/-- A range inside the address space is copied, truncated to the shorter of the range and the bytes (R97). -/
theorem loadBulk_of_le {start len : Nat} (h : start + len ≤ 65536) (bytes : List Byte) (s : State) :
    loadBulk start len bytes s = .next (hostEdit (bulkEdits start (bytes.take len)) s) := by
  rw [loadBulk, if_pos h, withBytes_eq_hostEdit]

/-- Inside the address space no address of a bulk copy wraps. -/
theorem mem_bulkEdits_range {start : Nat} {l : List Byte} {e : Word × Byte} (h : start + l.length ≤ 65536)
    (he : e ∈ bulkEdits start l) : start ≤ e.1.toNat ∧ e.1.toNat < start + l.length := by
  obtain ⟨i, hi, rfl⟩ := List.mem_mapIdx.mp he
  rw [BitVec.toNat_ofNat, Nat.mod_eq_of_lt (by omega)]
  omega

theorem read_hostEdit (edits : List (Word × Byte)) (s : State) (a : Word) :
    (hostEdit edits s).read a = (s.mem.writeAll edits).read a := rfl

/-- A bulk copy leaves every address outside its range. -/
theorem read_bulk_of_outside {start : Nat} {l : List Byte} {a : Word} (h : start + l.length ≤ 65536)
    (ha : a.toNat < start ∨ start + l.length ≤ a.toNat) (s : State) : (hostEdit (bulkEdits start l) s).read a = s.read a := by
  refine Memory.read_writeAll_of_notMem _ _ _ fun e he hea => ?_
  have hrange := mem_bulkEdits_range h he
  rw [hea] at hrange
  omega

/-- A bulk copy puts each byte at its place: the bytes after it go to later addresses. -/
theorem read_bulk_of_lt {start k : Nat} {l : List Byte} (h : start + l.length ≤ 65536) (hk : k < l.length) (s : State) :
    (hostEdit (bulkEdits start l) s).read (BitVec.ofNat 16 (start + k)) = l[k] := by
  have hsplit : bulkEdits start l = bulkEdits start (l.take k) ++
      (BitVec.ofNat 16 (start + k), l[k]) :: bulkEdits (start + k + 1) (l.drop (k + 1)) := by
    conv_lhs => rw [← List.take_append_drop k l, ← List.getElem_cons_drop hk, bulkEdits_append, bulkEdits_cons]
    rw [List.length_take_of_le (by omega)]
  rw [read_hostEdit, hsplit]
  refine read_writeAll_last _ _ _ fun e he hea => ?_
  have hrange := mem_bulkEdits_range (by rw [List.length_drop]; omega) he
  rw [hea, BitVec.toNat_ofNat, Nat.mod_eq_of_lt (by omega)] at hrange
  omega

/-- Settles O27, with the copy as one edit list of min(len, number of bytes) edits. -/
theorem loadBulkCopiesBytes : Obligations.LoadBulkCopiesBytes := by
  intro s start len bytes
  constructor
  · intro hpast
    rw [loadBulk, if_neg (by omega)]
  · intro hinside
    have hlength : (bytes.take len).length = min len bytes.length := List.length_take
    have hfits : start + (bytes.take len).length ≤ 65536 := by omega
    refine ⟨_, loadBulk_of_le hinside bytes s, fun k hk => ?_, fun a ha => ?_, rfl⟩
    · rw [read_bulk_of_lt hfits (by omega), List.getElem_take, List.getD_eq_getElem]
    · exact read_bulk_of_outside hfits (by omega) s

/-! ### The invariant -/

/-- The invariant speaks of memory only as its canonical form, which an edit list keeps. -/
theorem inv_hostEdit {s : State} (hs : s.Inv) (edits : List (Word × Byte)) : (hostEdit edits s).Inv :=
  { hs with memWf := Memory.wf_writeAll edits hs.memWf }

theorem inv_hostMovePc {s : State} (hs : s.Inv) (a : Word) : (hostMovePc a s).Inv := { hs with }

/-- A core that waits after STOP_WAKE waited before it, too. -/
theorem waits_of_waits_stopWake {s : State} (h : (s.halted || false || s.locked) = true) :
    (s.halted || s.stopped || s.locked) = true := by
  cases hstopped : s.stopped with
  | false => exact h
  | true => simp

/-- STOP_WAKE only takes a wait state away (R446). -/
theorem inv_stopWake {s : State} (hs : s.Inv) : (stopWake s).Inv :=
  { hs with
    waitIme := fun h => hs.waitIme (waits_of_waits_stopWake h)
    haltedOrStopped := Bool.and_false _
    stoppedOrLocked := rfl
    waitLatch := fun h => hs.waitLatch (waits_of_waits_stopWake h) }

/-- After reset the core is active with IME Unset (R481, R485), F reduced to its high nibble (R482) and memory built by edits. -/
theorem inv_resetWith (cfg : Config) : (State.resetWith cfg).Inv where
  memWf := Memory.wf_writeAll cfg.resetMem Memory.wf_nil
  fLow := by simp [State.resetWith, BitVec.and_assoc]
  haltbugIme := fun _ => rfl
  waitIme := by simp [State.resetWith]
  haltedOrStopped := rfl
  haltedOrLocked := rfl
  stoppedOrLocked := rfl
  waitLatch := fun _ => rfl
  lockedPolicy := by simp [State.resetWith]
  costUnit := rfl

theorem inv_loadBulk {start len : Nat} {bytes : List Byte} {s t : State} (hs : s.Inv)
    (h : loadBulk start len bytes s = .next t) : t.Inv := by
  rw [← withBytes_of_loadBulk h, withBytes_eq_hostEdit]
  exact inv_hostEdit hs _

/-- Settles O24, host input by host input (log 24 for PC). -/
theorem hostInputsKeepInv : Obligations.HostInputsKeepInv := fun s hs =>
  ⟨inv_hostEdit hs, inv_hostMovePc hs, inv_stopWake hs, inv_resetWith s.cfg, fun _ _ _ _ h => inv_loadBulk hs h⟩

end Sys2Proof.Proofs
end

