-- ==== Sys2Proof/Proofs/Encoding.lean ====
section
/-! PROOFS. Proofs/Encoding.lean: the decoder and the encoder are inverse to each other, and the decoder is total. -/

namespace Sys2Proof.Proofs

open Sys2Proof.Machine

/-! ### The decoder by the length of the opcode byte -/

theorem lengthOf_eq (b0 : Byte) : lengthOf b0 = 1 ∨ lengthOf b0 = 2 ∨ lengthOf b0 = 3 := by
  unfold lengthOf
  cases (baseCell b0).format <;> decide

theorem decode_one {b0 : Byte} (h : lengthOf b0 = 1) (rest : List Byte) :
    decode (b0 :: rest) = .ok (decodeBytes b0 0#8 0#8, rest) := by
  simp [decode, h]

theorem decode_two {b0 : Byte} (h : lengthOf b0 = 2) (b1 : Byte) (rest : List Byte) :
    decode (b0 :: b1 :: rest) = .ok (decodeBytes b0 b1 0#8, rest) := by
  simp [decode, h]

theorem decode_three {b0 : Byte} (h : lengthOf b0 = 3) (b1 b2 : Byte) (rest : List Byte) :
    decode (b0 :: b1 :: b2 :: rest) = .ok (decodeBytes b0 b1 b2, rest) := by
  simp [decode, h]

/-- What decodes is what `decodeBytes` makes of the first bytes, and exactly the opcode byte's length of them is read. -/
theorem eq_decodeBytes_of_decode {bytes rest : List Byte} {i : Instr} (h : decode bytes = .ok (i, rest)) :
    ∃ b0 b1 b2, i = decodeBytes b0 b1 b2 ∧ bytes = [b0, b1, b2].take (lengthOf b0) ++ rest := by
  cases bytes with
  | nil => cases h
  | cons b0 tail =>
    obtain hlen | hlen | hlen := lengthOf_eq b0
    · rw [decode_one hlen] at h
      cases h
      exact ⟨b0, 0#8, 0#8, rfl, by rw [hlen]; rfl⟩
    · rcases tail with _ | ⟨b1, tail⟩
      · simp [decode, hlen] at h
      rw [decode_two hlen] at h
      cases h
      exact ⟨b0, b1, 0#8, rfl, by rw [hlen]; rfl⟩
    · rcases tail with _ | ⟨b1, _ | ⟨b2, tail⟩⟩
      · simp [decode, hlen] at h
      · simp [decode, hlen] at h
      rw [decode_three hlen] at h
      cases h
      exact ⟨b0, b1, b2, rfl, by rw [hlen]; rfl⟩

/-! ### Decoding what is encoded -/

/-- A cell of the base map with a word operand gives the word back from its two bytes, the low one first (R85, R127). -/
theorem decode_word {b0 : Byte} {i : Word → Instr} (h : baseCell b0 = .n16 i) (n : Word) (rest : List Byte) :
    decode (b0 :: lo n :: hi n :: rest) = .ok (i n, rest) := by
  have hlen : lengthOf b0 = 3 := by rw [lengthOf, h]; rfl
  have hmake : decodeBytes b0 (lo n) (hi n) = i (pair (hi n) (lo n)) := by rw [decodeBytes, h]; rfl
  rw [decode_three hlen, hmake, pair_hi_lo]

/-- Settles O2, instruction by instruction: with its operand symbolic, each one's bytes select its cell of the maps (R129, R130), and a
word operand comes back from its two halves. -/
theorem decodeOfEncodeIsIdentity : Obligations.DecodeOfEncodeIsIdentity := by
  intro i rest wf
  cases i
  case prefixCB => cases wf
  case ldBCn16 n | ldDEn16 n | ldHLn16 n | ldSPn16 n | ldMema16SP n | ldMema16A n | ldAMema16 n | jpa16 n | jpNZa16 n | jpZa16 n |
      jpNCa16 n | jpCa16 n | calla16 n | callNZa16 n | callZa16 n | callNCa16 n | callCa16 n =>
    exact decode_word rfl n rest
  all_goals exact rfl

/-! ### Encoding what is decoded -/

/-- The bytes of an instruction by the format of its cell (R121); a word operand is stored as its two halves. -/
def formatBytes (b0 b1 b2 : Byte) : Format → List Byte
  | .x8 => [b0]
  | .x8n8 => [b0, b1]
  | .x8e8 => [b0, b1]
  | .x8n16 => [b0, lo (pair b2 b1), hi (pair b2 b1)]
  | .cb => [b0, b1]
  | .undef => [b0]

theorem formatBytes_eq_take (b0 b1 b2 : Byte) (f : Format) : formatBytes b0 b1 b2 f = [b0, b1, b2].take f.bytes := by
  cases f
  case x8n16 => rw [formatBytes, lo_pair, hi_pair]; rfl
  all_goals rfl

theorem decodeExtended_encodes (b1 : Byte) :
    (decodeExtended b1).wellFormed = true ∧ encode (decodeExtended b1) = [0xCB#8, b1] := by
  obtain ⟨n, hn⟩ := b1
  interval_cases n <;> exact ⟨rfl, rfl⟩

/-- Every cell of the base map holds a well-formed instruction that encodes to the cell's byte and the operand bytes of its format; the
cell of 0xCB leaves this to the extended map. -/
theorem decodeBytes_encodes (b0 b1 b2 : Byte) : (decodeBytes b0 b1 b2).wellFormed = true ∧
    encode (decodeBytes b0 b1 b2) = formatBytes b0 b1 b2 (baseCell b0).format := by
  obtain ⟨n, hn⟩ := b0
  obtain hbelow | rfl | habove := Nat.lt_trichotomy n 0xCB
  · interval_cases n <;> exact ⟨rfl, rfl⟩
  · exact decodeExtended_encodes b1
  · interval_cases n <;> exact ⟨rfl, rfl⟩

theorem wellFormed_decodeBytes (b0 b1 b2 : Byte) : (decodeBytes b0 b1 b2).wellFormed = true := (decodeBytes_encodes b0 b1 b2).1

theorem encode_decodeBytes (b0 b1 b2 : Byte) : encode (decodeBytes b0 b1 b2) = [b0, b1, b2].take (lengthOf b0) :=
  (decodeBytes_encodes b0 b1 b2).2.trans (formatBytes_eq_take b0 b1 b2 _)

/-- Settles O3, from what the decoder reads and what that encodes to. -/
theorem encodeOfDecodeIsIdentity : Obligations.EncodeOfDecodeIsIdentity := by
  intro bytes rest i h
  obtain ⟨b0, b1, b2, rfl, rfl⟩ := eq_decodeBytes_of_decode h
  exact ⟨wellFormed_decodeBytes b0 b1 b2, by rw [encode_decodeBytes]⟩

/-! ### Decode is total -/

/-- Three bytes are the encoding of the instruction that they decode to, followed by the bytes that it does not read. -/
theorem decode_three_bytes (b0 b1 b2 : Byte) :
    decode [b0, b1, b2] = .ok (decodeBytes b0 b1 b2, [b0, b1, b2].drop (lengthOf b0)) := by
  have h := decodeOfEncodeIsIdentity (decodeBytes b0 b1 b2) ([b0, b1, b2].drop (lengthOf b0)) (wellFormed_decodeBytes b0 b1 b2)
  rwa [encode_decodeBytes, List.take_append_drop] at h

theorem head?_encode_decodeBytes (b0 b1 b2 : Byte) : (encode (decodeBytes b0 b1 b2)).head? = some b0 := by
  obtain hlen | hlen | hlen := lengthOf_eq b0 <;> rw [encode_decodeBytes, hlen] <;> rfl

/-- The 11 undefined opcode bytes (R131), in the order of `Instr.undefined`. -/
def undefinedBytes : List Byte :=
  [0xD3#8, 0xDB#8, 0xDD#8, 0xE3#8, 0xE4#8, 0xEB#8, 0xEC#8, 0xED#8, 0xF4#8, 0xFC#8, 0xFD#8]

theorem map_decodeBytes_undefinedBytes (b1 b2 : Byte) :
    undefinedBytes.map (fun b0 => decodeBytes b0 b1 b2) = Instr.undefined := rfl

theorem map_head?_encode_undefined : Instr.undefined.map (fun i => (encode i).head?) = undefinedBytes.map some := rfl

/-- An instruction's first byte tells whether it is an undefined opcode. -/
theorem decodeBytes_mem_undefined (b0 b1 b2 : Byte) : decodeBytes b0 b1 b2 ∈ Instr.undefined ↔ b0 ∈ undefinedBytes := by
  constructor
  · intro hundefined
    have hfirst : (encode (decodeBytes b0 b1 b2)).head? ∈ undefinedBytes.map some :=
      map_head?_encode_undefined ▸ List.mem_map_of_mem hundefined
    rw [head?_encode_decodeBytes] at hfirst
    simpa using hfirst
  · intro hbyte
    rw [← map_decodeBytes_undefinedBytes b1 b2]
    exact List.mem_map_of_mem hbyte

/-- Settles O5. -/
theorem decodeIsTotalWithElevenUndefinedBytes : Obligations.DecodeIsTotalWithElevenUndefinedBytes :=
  ⟨fun b0 b1 b2 => ⟨_, decode_three_bytes b0 b1 b2⟩, fun _ _ => rfl, decodeBytes_mem_undefined⟩

/-- Settles O1, by running the decoder on the thirteen words. -/
theorem writtenOutWordsDecode : Obligations.WrittenOutWordsDecode := by
  unfold Obligations.WrittenOutWordsDecode
  decide

end Sys2Proof.Proofs
end

