-- ==== Sys2Proof/Proofs/Fields.lean ====
section
/-! PROOFS. Proofs/Fields.lean: the fields of an opcode byte in the two maps, and the extended instruction that 0xCB's second byte selects.
-/

namespace Sys2Proof.Proofs

open Sys2Proof.Machine

/-! ### The fields of the base map (R124, R125, R126, R260, R391) -/

theorem decodeBytes_ldRR (dst src : Reg) (b1 b2 : Byte) :
    decodeBytes (1#2 ++ dst.code ++ src.code) b1 b2 = Instr.ldRR dst src := by
  cases dst <;> cases src <;> rfl

theorem decodeBytes_reg (r : Reg) (b1 b2 : Byte) :
    decodeBytes (1#2 ++ r.code ++ 6#3) b1 b2 = Instr.ldRMem r ∧
    decodeBytes (1#2 ++ 6#3 ++ r.code) b1 b2 = Instr.ldMemR r ∧
    decodeBytes (0#2 ++ r.code ++ 6#3) b1 b2 = Instr.ldRN r b1 := by
  cases r <;> exact ⟨rfl, rfl, rfl⟩

theorem decodeBytes_r8 (z : R8) (b1 b2 : Byte) :
    decodeBytes (0#2 ++ z.code ++ 4#3) b1 b2 = Instr.inc8 z ∧ decodeBytes (0#2 ++ z.code ++ 5#3) b1 b2 = Instr.dec8 z := by
  cases z with
  | memHL => exact ⟨rfl, rfl⟩
  | reg r => cases r <;> exact ⟨rfl, rfl⟩

theorem decodeBytes_alu_reg (op : AluOp) (src : Reg) (b1 b2 : Byte) :
    decodeBytes (2#2 ++ op.code ++ src.code) b1 b2 = Instr.alu op (.reg src) := by
  cases op <;> cases src <;> rfl

theorem decodeBytes_alu_memHL_imm (op : AluOp) (b1 b2 : Byte) :
    decodeBytes (2#2 ++ op.code ++ 6#3) b1 b2 = Instr.alu op .memHL ∧
    decodeBytes (3#2 ++ op.code ++ 6#3) b1 b2 = Instr.alu op (.imm b1) := by
  cases op <;> exact ⟨rfl, rfl⟩

theorem decodeBytes_r16 (p : R16) (b1 b2 : Byte) :
    decodeBytes (0#2 ++ p.code ++ 1#4) b1 b2 = Instr.ldR16 p (pair b2 b1) ∧
    decodeBytes (0#2 ++ p.code ++ 9#4) b1 b2 = Instr.addHLR16 p ∧
    decodeBytes (0#2 ++ p.code ++ 3#4) b1 b2 = Instr.inc16 p ∧
    decodeBytes (0#2 ++ p.code ++ 11#4) b1 b2 = Instr.dec16 p := by
  cases p <;> exact ⟨rfl, rfl, rfl, rfl⟩

theorem decodeBytes_r16mem (m : R16Mem) (b1 b2 : Byte) :
    decodeBytes (0#2 ++ m.code ++ 2#4) b1 b2 = Instr.ldMemA m ∧ decodeBytes (0#2 ++ m.code ++ 10#4) b1 b2 = Instr.ldAMem m := by
  cases m <;> exact ⟨rfl, rfl⟩

theorem decodeBytes_r16stk (q : R16Stk) (b1 b2 : Byte) :
    decodeBytes (3#2 ++ q.code ++ 1#4) b1 b2 = Instr.pop q ∧ decodeBytes (3#2 ++ q.code ++ 5#4) b1 b2 = Instr.push q := by
  cases q <;> exact ⟨rfl, rfl⟩

theorem decodeBytes_cond (cc : Cond) (b1 b2 : Byte) :
    decodeBytes (1#3 ++ cc.code ++ 0#3) b1 b2 = Instr.jrCC cc b1 ∧
    decodeBytes (6#3 ++ cc.code ++ 0#3) b1 b2 = Instr.retCC cc ∧
    decodeBytes (6#3 ++ cc.code ++ 2#3) b1 b2 = Instr.jpCC cc (pair b2 b1) ∧
    decodeBytes (6#3 ++ cc.code ++ 4#3) b1 b2 = Instr.callCC cc (pair b2 b1) := by
  cases cc <;> exact ⟨rfl, rfl, rfl, rfl⟩

theorem bitVec3_cases (y : BitVec 3) : y = 0#3 ∨ y = 1#3 ∨ y = 2#3 ∨ y = 3#3 ∨ y = 4#3 ∨ y = 5#3 ∨ y = 6#3 ∨ y = 7#3 := by
  revert y
  decide

theorem decodeBytes_rst (y : BitVec 3) (b1 b2 : Byte) : decodeBytes (3#2 ++ y ++ 7#3) b1 b2 = Instr.rst y := by
  rcases bitVec3_cases y with rfl | rfl | rfl | rfl | rfl | rfl | rfl | rfl <;> rfl

/-! ### The fields of the extended map (R130, R344) -/

theorem decodeExtended_rot (op : RotOp) (z : R8) : decodeExtended (0#2 ++ op.code ++ z.code) = Instr.rot op z := by
  cases z with
  | memHL => cases op <;> rfl
  | reg r => cases op <;> cases r <;> rfl

theorem decodeExtended_bitNumber (y : BitVec 3) (z : R8) :
    decodeExtended (1#2 ++ y ++ z.code) = Instr.bit y z ∧
    decodeExtended (2#2 ++ y ++ z.code) = Instr.res y z ∧
    decodeExtended (3#2 ++ y ++ z.code) = Instr.set y z := by
  revert y
  cases z with
  | memHL => decide
  | reg r => cases r <;> decide

/-- Settles O4, field by field; after 0xCB the second byte is looked up in the extended map. -/
theorem fieldsSelectOperands : Obligations.FieldsSelectOperands := by
  intro dst src z op ro p q m cc y b1 b2
  obtain ⟨hldRMem, -, hldRN⟩ := decodeBytes_reg dst b1 b2
  obtain ⟨-, hldMemR, -⟩ := decodeBytes_reg src b1 b2
  obtain ⟨hinc8, hdec8⟩ := decodeBytes_r8 z b1 b2
  obtain ⟨haluMemHL, haluImm⟩ := decodeBytes_alu_memHL_imm op b1 b2
  obtain ⟨hldR16, haddHL, hinc16, hdec16⟩ := decodeBytes_r16 p b1 b2
  obtain ⟨hldMemA, hldAMem⟩ := decodeBytes_r16mem m b1 b2
  obtain ⟨hpop, hpush⟩ := decodeBytes_r16stk q b1 b2
  obtain ⟨hjr, hret, hjp, hcall⟩ := decodeBytes_cond cc b1 b2
  obtain ⟨hbit, hres, hset⟩ := decodeExtended_bitNumber y z
  exact ⟨decodeBytes_ldRR dst src b1 b2, hldRMem, hldMemR, hldRN, hinc8, hdec8, decodeBytes_alu_reg op src b1 b2, haluMemHL, haluImm,
    hldR16, haddHL, hinc16, hdec16, hldMemA, hldAMem, hpop, hpush, hjr, hret, hjp, hcall, decodeBytes_rst y b1 b2,
    decodeExtended_rot ro z, hbit, hres, hset⟩

/-! ### The term of the row 0xCB (log 8) -/

theorem exec_rot (op : RotOp) (z : R8) (s : State) : exec (.rot op z) s = rotateR8 op z s := by
  cases z with
  | memHL => cases op <;> rfl
  | reg r => cases op <;> cases r <;> rfl

theorem exec_bitNumber (y : BitVec 3) (z : R8) (s : State) :
    exec (.bit y z) s = testR8 y z s ∧ exec (.res y z) s = resetR8 y z s ∧ exec (.set y z) s = setR8Bit y z s := by
  rcases bitVec3_cases y with rfl | rfl | rfl | rfl | rfl | rfl | rfl | rfl
  all_goals
    cases z with
    | memHL => exact ⟨rfl, rfl, rfl⟩
    | reg r => cases r <;> exact ⟨rfl, rfl, rfl⟩

@[simp] theorem code_rotOp_ofCode (y : BitVec 3) : (RotOp.ofCode y).code = y := by
  revert y
  decide

@[simp] theorem code_r8_ofCode (z : BitVec 3) : (R8.ofCode z).code = z := by
  revert z
  decide

theorem fields_append (b : Byte) : xField b ++ yField b ++ zField b = b := by
  revert b
  decide

theorem xField_cases (b : Byte) : xField b = 0#2 ∨ xField b = 1#2 ∨ xField b = 2#2 ∨ xField b = 3#2 := by
  revert b
  decide

/-- The cell of the extended map at `b1` is the one that the fields of `b1` name. -/
theorem decodeExtended_of_xField {b1 : Byte} {x : BitVec 2} {i : Instr} (hx : xField b1 = x)
    (h : decodeExtended (x ++ yField b1 ++ (R8.ofCode (zField b1)).code) = i) : decodeExtended b1 = i := by
  rwa [code_r8_ofCode, ← hx, fields_append] at h

/-- The instruction at `b1` in the extended map does what `extended` does by the fields of `b1` (R128). -/
theorem exec_decodeExtended (b1 : Byte) (s : State) : exec (decodeExtended b1) s = extended b1 s := by
  have hrot := decodeExtended_rot (RotOp.ofCode (yField b1)) (R8.ofCode (zField b1))
  rw [code_rotOp_ofCode] at hrot
  obtain ⟨hbit, hres, hset⟩ := decodeExtended_bitNumber (yField b1) (R8.ofCode (zField b1))
  obtain ⟨hexecBit, hexecRes, hexecSet⟩ := exec_bitNumber (yField b1) (R8.ofCode (zField b1)) s
  obtain hx | hx | hx | hx := xField_cases b1
  · rw [decodeExtended_of_xField hx hrot, exec_rot]
    simp [extended, hx]
  · rw [decodeExtended_of_xField hx hbit, hexecBit]
    simp [extended, hx]
  · rw [decodeExtended_of_xField hx hres, hexecRes]
    simp [extended, hx]
  · rw [decodeExtended_of_xField hx hset, hexecSet]
    simp [extended, hx]

/-- Settles O6. -/
theorem prefixRunsSelectedInstruction : Obligations.PrefixRunsSelectedInstruction := by
  intro b1 b2 s
  obtain ⟨d, hexec⟩ := extended_applies_delta b1 s
  exact ⟨rfl, applyDelta d s, hexec, (exec_decodeExtended b1 s).trans hexec⟩

end Sys2Proof.Proofs
end

