-- ==== Sys2Proof/Proofs/InstructionStep.lean ====
section
/-! PROOFS. Proofs/InstructionStep.lean: one instruction step, by `step`, `execute` or `execute_with_args`, and where it leaves PC. -/

namespace Sys2Proof.Proofs

open Sys2Proof.Machine Sys2Proof.Claims

/-! ### The fall-through address -/

theorem extended_fallsThrough (b1 : Byte) (s : State) : ∃ d, extended b1 s = .next (applyDelta d s) ∧ nextPc d s = after s 2 := by
  unfold extended
  generalize R8.ofCode (zField b1) = z
  split
  · cases z <;> exact ⟨_, rfl, rfl⟩
  split
  · cases z <;> exact ⟨_, rfl, rfl⟩
  split
  · cases z <;> exact ⟨_, rfl, rfl⟩
  · cases z <;> exact ⟨_, rfl, rfl⟩

/-- The delta of an instruction that is no control transfer has no target, and its length is that of the encoding, or 0 for an undefined
opcode (R137, R415). -/
theorem exec_fallsThrough (i : Instr) (s : State) (h : isTransfer i = false) :
    ∃ d, exec i s = .next (applyDelta d s) ∧
      nextPc d s = if i ∈ Instr.undefined then s.pc else after s (encode i).length := by
  cases i
  case prefixCB b1 => exact extended_fallsThrough b1 s
  case jpa16 | jpNZa16 | jpZa16 | jpNCa16 | jpCa16 | jpHL | jre8 | jrNZe8 | jrZe8 | jrNCe8 | jrCe8 | calla16 | callNZa16 | callZa16 |
      callNCa16 | callCa16 | ret | retNZ | retZ | retNC | retC | reti | rst00 | rst08 | rst10 | rst18 | rst20 | rst28 | rst30 | rst38 =>
    cases h
  all_goals exact ⟨_, rfl, rfl⟩

/-- Settles O20. -/
theorem otherInstructionsFallThrough : Obligations.OtherInstructionsFallThrough := by
  intro i s h
  obtain ⟨d, hexec, hpc⟩ := exec_fallsThrough i s h
  exact ⟨applyDelta d s, hexec, hpc⟩

/-! ### The ways to run one instruction -/

/-- Settles O11: without a dispatch, an active core runs the instruction at PC. -/
theorem stepRunsDecodedInstruction : Obligations.StepRunsDecodedInstruction := by
  intro s t active hquiet hexec
  have hd : dispatches s = false := Bool.eq_false_iff.mpr fun h => hquiet ((dispatches_iff s).mp h)
  exact step_of_active active hd hexec

/-- `execute` is the instruction step with its own opcode byte, whatever the state (R138). -/
theorem execute_runs (op : Byte) (s : State) :
    ∃ t, exec (decodeBytes op (s.read (s.pc + 1 - hb s)) (s.read (s.pc + 2 - hb s))) s = .next t ∧
      execute op s = .next (ended s t) := by
  obtain ⟨d, hexec⟩ := exec_applies_delta (decodeBytes op s.fetchB1 s.fetchB2) s
  refine ⟨applyDelta d s, hexec, ?_⟩
  rw [execute, instructionStepOn, hexec]
  rfl

/-- The state in which the host has put two operand bytes after PC. -/
def withOperands (s : State) (x y : Byte) : State := hostEdit [(s.pc + 1, x), (s.pc + 2, y)] s

theorem executeWithArgs_eq (op x y : Byte) (s : State) : executeWithArgs op [x, y] s = execute op (withOperands s x y) := by
  have hnext : s.pc + 1 + 1 = s.pc + 2 := by rw [BitVec.add_assoc]; rfl
  have hbytes : s.withBytes (s.pc + 1) [x, y] = withOperands s x y := by
    simp only [State.withBytes, hnext]
    rfl
  rw [executeWithArgs, hbytes]

theorem read_withOperands_first (s : State) (x y : Byte) : (withOperands s x y).read (s.pc + 1) = x :=
  read_writeAll_last s.mem [] x (by simp)

theorem read_withOperands_second (s : State) (x y : Byte) : (withOperands s x y).read (s.pc + 2) = y :=
  read_writeAll_last s.mem [(s.pc + 1, x)] y (by simp)

theorem hb_of_not_latched {s : State} (h : s.haltbug = false) : hb s = 0#16 := by
  rw [hb, h]
  rfl

/-- Without the halt bug the operand bytes are read where the host has put them (R122). -/
theorem executeWithArgs_runs {s : State} (h : s.haltbug = false) (op x y : Byte) :
    ∃ t, exec (decodeBytes op x y) (withOperands s x y) = .next t ∧
      executeWithArgs op [x, y] s = .next (ended (withOperands s x y) t) := by
  obtain ⟨t, hexec, hexecute⟩ := execute_runs op (withOperands s x y)
  have hlatch : hb (withOperands s x y) = 0#16 := hb_of_not_latched h
  have hpc : (withOperands s x y).pc = s.pc := rfl
  rw [hlatch, hpc, BitVec.sub_zero, BitVec.sub_zero, read_withOperands_first, read_withOperands_second] at hexec
  rw [executeWithArgs_eq]
  exact ⟨t, hexec, hexecute⟩

/-- Settles O28. -/
theorem executeRunsOpcode : Obligations.ExecuteRunsOpcode := fun op x y s =>
  ⟨execute_runs op s, fun h => executeWithArgs_runs h op x y⟩

end Sys2Proof.Proofs
end

