-- ==== Sys2Proof/Proofs/Frame.lean ====
section
/-! PROOFS. Proofs/Frame.lean: what the application of a State-Delta leaves unchanged, and how the instruction ends, read off the delta. -/

namespace Sys2Proof.Proofs

open Sys2Proof.Machine Sys2Proof.Claims

/-! ### The frame of a delta -/

/-- The delta's write of one flag, if present (R36). -/
def flagWrite (d : Delta) : Flag → Option Bool
  | .z => d.flagZ
  | .n => d.flagN
  | .h => d.flagH
  | .c => d.flagC

/-- The flags that a delta may change: all of them if it writes F as a whole, else those it writes (R46 step 3). -/
def flagsWritten (d : Delta) : List Flag :=
  [Flag.z, .n, .h, .c].filter fun x => d.f.isSome || (flagWrite d x).isSome

/-- A flag after a delta that does not write F as a whole: its write, or its old value (R36). -/
theorem flag_applyDelta (d : Delta) (s : State) (x : Flag) (hf : d.f = none) :
    flag (applyDelta d s) x = (flagWrite d x).getD (flag s x) := by
  cases x with
  | z => exact applyDelta_flag_z d s hf
  | n => exact applyDelta_flag_n d s hf
  | h => exact applyDelta_flag_h d s hf
  | c => exact applyDelta_flag_c d s hf

theorem notMem_flagsWritten {d : Delta} {x : Flag} (h : x ∉ flagsWritten d) : d.f = none ∧ flagWrite d x = none := by
  cases x <;> simpa [flagsWritten] using h

/-- A delta changes only the registers, flags and bytes of memory that it names (R45, R46). -/
theorem frame_applyDelta (d : Delta) (s : State) :
    Frame s (applyDelta d s) (d.regs.map Prod.fst) (flagsWritten d) d.sp.isSome (d.mem.map Prod.fst) where
  reg r h := by
    rw [applyDelta_reg]
    exact reg_writeRegs_of_notMem s d.regs r fun _ hw he => h (he ▸ List.mem_map_of_mem hw)
  flag x h := by
    obtain ⟨hf, hwrite⟩ := notMem_flagsWritten h
    rw [flag_applyDelta d s x hf, hwrite, Option.getD_none]
  sp h := by rw [applyDelta_sp, Option.not_isSome_iff_eq_none.mp (Bool.eq_false_iff.mp h), Option.getD_none]
  mem a h := Memory.read_writeAll_of_notMem s.mem d.mem a fun _ he hea => h (hea ▸ List.mem_map_of_mem he)
  firstStep := applyDelta_firstStep d s
  cfg := applyDelta_cfg d s

/-! ### A register pair written (R33) -/

theorem writeRegs_append (s : State) (l l' : List (Reg × Byte)) : s.writeRegs (l ++ l') = (s.writeRegs l).writeRegs l' := by
  induction l generalizing s with
  | nil => rfl
  | cons w rest ih => exact ih _

/-- Two registers hold the halves of `w` when these are a delta's last two register writes, the high one first. -/
theorem pair_reg_applyDelta {d : Delta} {l : List (Reg × Byte)} {x y : Reg} (s : State) (w : Word)
    (hd : d.regs = l ++ [(x, hi w), (y, lo w)]) (hxy : x ≠ y) : pair ((applyDelta d s).reg x) ((applyDelta d s).reg y) = w := by
  simp [hd, writeRegs_append, hxy]

/-- A delta whose last write is that of an r16 operand leaves the operand the value written (R125). -/
theorem value16_applyDelta_setR16 (d : Delta) (p : R16) (w : Word) (s : State) : value16 (applyDelta (d.setR16 p w) s) p = w := by
  cases p with
  | bc => exact pair_reg_applyDelta (x := .b) (y := .c) s w rfl (by decide)
  | de => exact pair_reg_applyDelta (x := .d) (y := .e) s w rfl (by decide)
  | hl => exact pair_reg_applyDelta (x := .h) (y := .l) s w rfl (by decide)
  | sp => rfl

/-! ### The end of an instruction -/

/-- A delta that enters no wait state and leaves the halt-bug latch clear ends with its own PC, cost and IME (R46, R137). -/
theorem ends_applyDelta (d : Delta) (s : State) (h : deltaControl d = { ime := d.ime }) :
    Ends s (applyDelta d s) (nextPc d s) d.cost (nextIme d.ime s.ime) := by
  obtain ⟨-, hhalt, hstop, hlock, hlatch⟩ := Control.mk.inj h
  constructor <;> simp [hhalt, hstop, hlock, hlatch]

/-- A delta without a target and without any control part falls through, and IME makes the automatic transition (R41, R137). -/
theorem ends_of_fallsThrough {d : Delta} {s : State} {pc : Word} (h : deltaControl d = {}) (hpc : nextPc d s = pc) :
    Ends s (applyDelta d s) pc d.cost (auto s) := by
  have hime : d.ime = none := congrArg Control.ime h
  have hends := ends_applyDelta d s (by rw [h, hime])
  rw [hpc, hime] at hends
  rw [auto_eq_autoIme]
  exact hends

theorem nextPc_of_fallsThrough {d : Delta} (s : State) (hpc : d.pc = none) (hlen : d.len ≠ 0) : nextPc d s = after s d.len := by
  rw [nextPc, hpc]
  exact if_neg hlen

end Sys2Proof.Proofs
end

