-- ==== Sys2Proof/Proofs/Load8.lean ====
section
/-! PROOFS. Proofs/Load8.lean: the 8-bit loads and stores (41_load8.md). -/

namespace Sys2Proof.Proofs

open Sys2Proof.Machine Sys2Proof.Claims

/-! ### One byte loaded, one byte stored -/

/-- An instruction that only loads a byte into a register. -/
theorem commit_load {len : Nat} (hlen : len ≠ 0) (cost : Nat) (r : Reg) (v : Byte) (s : State) :
    ∃ t, commit { len := len, cost := cost, regs := [(r, v)] } s = .next t ∧ t.reg r = v ∧ Frame s t [r] [] false [] ∧
      Ends s t (after s len) cost (auto s) :=
  ⟨_, rfl, by simp, frame_applyDelta _ s, ends_of_fallsThrough rfl (nextPc_of_fallsThrough s rfl hlen)⟩

/-- An instruction that only stores a byte. -/
theorem commit_store {len : Nat} (hlen : len ≠ 0) (cost : Nat) (a : Word) (v : Byte) (s : State) :
    ∃ t, commit { len := len, cost := cost, mem := [(a, v)] } s = .next t ∧ t.read a = v ∧ Frame s t [] [] false [a] ∧
      Ends s t (after s len) cost (auto s) :=
  ⟨_, rfl, by simp, frame_applyDelta _ s, ends_of_fallsThrough rfl (nextPc_of_fallsThrough s rfl hlen)⟩

/-! ### The registers and (HL) -/

theorem encode_ldRR (dst src : Reg) : encode (.ldRR dst src) = [1#2 ++ dst.code ++ src.code] := by
  cases dst <;> cases src <;> rfl

theorem exec_ldRR (dst src : Reg) (s : State) : exec (.ldRR dst src) s = loadReg dst src s := by
  cases dst <;> cases src <;> rfl

theorem encode_reg (r : Reg) (n : Byte) :
    encode (.ldRN r n) = [0#2 ++ r.code ++ 6#3, n] ∧ encode (.ldRMem r) = [1#2 ++ r.code ++ 6#3] ∧
    encode (.ldMemR r) = [1#2 ++ 6#3 ++ r.code] := by
  cases r <;> exact ⟨rfl, rfl, rfl⟩

theorem exec_reg (r : Reg) (n : Byte) (s : State) :
    exec (.ldRN r n) s = loadImm r n s ∧ exec (.ldRMem r) s = loadMemHL r s ∧ exec (.ldMemR r) s = storeMemHL r s := by
  cases r <;> exact ⟨rfl, rfl, rfl⟩

/-- Settles O29: each form only loads a byte. -/
theorem loadRegister : Obligations.LoadRegister := by
  intro dst src n s
  obtain ⟨hencodeRN, hencodeRMem, -⟩ := encode_reg dst n
  obtain ⟨hexecRN, hexecRMem, -⟩ := exec_reg dst n s
  rw [exec_ldRR, hexecRN, hexecRMem]
  exact ⟨⟨encode_ldRR dst src, commit_load one_ne_zero 4 dst (s.reg src) s⟩,
    ⟨hencodeRN, commit_load two_ne_zero 8 dst n s⟩,
    ⟨hencodeRMem, commit_load one_ne_zero 8 dst (s.read s.hl) s⟩⟩

/-- Settles O30: each form only stores a byte at HL. -/
theorem storeAtHL : Obligations.StoreAtHL := by
  intro z n s
  obtain ⟨-, -, hencode⟩ := encode_reg z n
  obtain ⟨-, -, hexec⟩ := exec_reg z n s
  rw [hexec]
  exact ⟨⟨hencode, commit_store one_ne_zero 8 s.hl (s.reg z) s⟩, ⟨rfl, commit_store two_ne_zero 12 s.hl n s⟩⟩

/-! ### The r16mem operands -/

theorem encode_r16mem (m : R16Mem) :
    encode (.ldAMem m) = [0#2 ++ m.code ++ 10#4] ∧ encode (.ldMemA m) = [0#2 ++ m.code ++ 2#4] := by
  cases m <;> exact ⟨rfl, rfl⟩

theorem exec_r16mem (m : R16Mem) (s : State) : exec (.ldAMem m) s = loadA m s ∧ exec (.ldMemA m) s = storeA m s := by
  cases m <;> exact ⟨rfl, rfl⟩

theorem r16memAddr_eq (s : State) (m : R16Mem) : s.r16memAddr m = address16 s m := by cases m <;> rfl

/-- HL after the post-modification of a delta that does not write H or L itself (R125). -/
theorem hl_applyDelta_postModify {d : Delta} (s : State) (m : R16Mem) (hh : ∀ w ∈ d.regs, w.1 ≠ .h) (hl : ∀ w ∈ d.regs, w.1 ≠ .l) :
    value16 (applyDelta (d.postModify s m) s) .hl = hlAfter s m := by
  cases m
  case bc | de => exact congrArg₂ pair (reg_writeRegs_of_notMem s d.regs .h hh) (reg_writeRegs_of_notMem s d.regs .l hl)
  case hlInc => exact value16_applyDelta_setR16 d .hl (s.hl + 1) s
  case hlDec => exact value16_applyDelta_setR16 d .hl (s.hl - 1) s

/-- Settles O31: A is loaded from the old address, before HL is written. -/
theorem loadAIndirect : Obligations.LoadAIndirect := by
  intro m s
  obtain ⟨hencode, -⟩ := encode_r16mem m
  obtain ⟨hexec, -⟩ := exec_r16mem m s
  rw [hexec]
  refine ⟨hencode, _, rfl, ?value, hl_applyDelta_postModify s m (by simp) (by simp), ?frame, ?ends⟩
  case value => cases m <;> rfl
  case frame => cases m <;> exact frame_applyDelta _ s
  case ends => cases m <;> exact ends_of_fallsThrough rfl rfl

/-- Settles O32: the store goes to the old address, whatever is written to HL. -/
theorem storeAIndirect : Obligations.StoreAIndirect := by
  intro m s
  obtain ⟨-, hencode⟩ := encode_r16mem m
  obtain ⟨-, hexec⟩ := exec_r16mem m s
  rw [hexec]
  refine ⟨hencode, _, rfl, ?value, hl_applyDelta_postModify s m (by simp) (by simp), ?frame, ?ends⟩
  case value => cases m <;> exact Memory.read_write_same s.mem _ s.a
  case frame => cases m <;> exact frame_applyDelta _ s
  case ends => cases m <;> exact ends_of_fallsThrough rfl rfl

/-! ### The addresses that the instruction gives -/

/-- The high page of LDH (R127) starts at 0xFF00. -/
theorem highPage_eq (o : Byte) : highPage o = BitVec.ofNat 16 (0xFF00 + o.toNat) := by
  apply BitVec.eq_of_toNat_eq
  have ho : o.toNat < 256 := o.isLt
  rw [highPage, pair_toNat, BitVec.toNat_ofNat, BitVec.toNat_ofNat]
  omega

/-- Settles O33: each form only loads A. -/
theorem loadAFromGivenAddress : Obligations.LoadAFromGivenAddress := by
  intro a o s
  rw [← highPage_eq s.c, ← highPage_eq o]
  exact ⟨⟨rfl, commit_load three_ne_zero 16 .a (s.read a) s⟩,
    ⟨rfl, commit_load one_ne_zero 8 .a (s.read (highPage s.c)) s⟩,
    ⟨rfl, commit_load two_ne_zero 12 .a (s.read (highPage o)) s⟩⟩

/-- Settles O34: each form only stores A. -/
theorem storeAAtGivenAddress : Obligations.StoreAAtGivenAddress := by
  intro a o s
  rw [← highPage_eq s.c, ← highPage_eq o]
  exact ⟨⟨rfl, commit_store three_ne_zero 16 a s.a s⟩,
    ⟨rfl, commit_store one_ne_zero 8 (highPage s.c) s.a s⟩,
    ⟨rfl, commit_store two_ne_zero 12 (highPage o) s.a s⟩⟩

end Sys2Proof.Proofs
end

