-- ==== Sys2Proof/Proofs/Load16.lean ====
section
/-! PROOFS. Proofs/Load16.lean: the 16-bit loads, PUSH and POP (42_load16.md), and ADD SP,e8, which shares its meaning with LD HL,SP+e8. -/

namespace Sys2Proof.Proofs

open Sys2Proof.Machine Sys2Proof.Claims

/-! ### A pair or SP loaded -/

theorem encode_ldR16 (p : R16) (n : Word) : encode (.ldR16 p n) = [0#2 ++ p.code ++ 1#4, lo n, hi n] := by
  cases p <;> rfl

theorem exec_ldR16 (p : R16) (n : Word) (s : State) : exec (.ldR16 p n) s = loadR16 p n s := by
  cases p <;> rfl

/-- An instruction that only loads a word into an r16 operand. -/
theorem commit_setR16 {len : Nat} (hlen : len ≠ 0) (cost : Nat) (p : R16) (w : Word) (s : State) :
    ∃ t, commit (({ len := len, cost := cost } : Delta).setR16 p w) s = .next t ∧ value16 t p = w ∧
      Frame s t (regs16 p) [] (isSP p) [] ∧ Ends s t (after s len) cost (auto s) := by
  refine ⟨_, rfl, value16_applyDelta_setR16 _ p w s, ?frame, ?ends⟩
  case frame => cases p <;> exact frame_applyDelta _ s
  case ends => cases p <;> exact ends_of_fallsThrough rfl (nextPc_of_fallsThrough s rfl hlen)

/-- Settles O35: each form only loads a word, `LD SP,HL` the one that HL holds. -/
theorem loadPair : Obligations.LoadPair := by
  intro p n s
  rw [exec_ldR16]
  exact ⟨⟨encode_ldR16 p n, commit_setR16 three_ne_zero 12 p n s⟩, ⟨rfl, commit_setR16 one_ne_zero 8 .sp s.hl s⟩⟩

/-! ### Two bytes stored -/

/-- Two edits at distinct addresses are both read back (R84). -/
theorem read_writeAll_two (m : Memory) {a b : Word} (v w : Byte) (h : b ≠ a) :
    (m.writeAll [(a, v), (b, w)]).read a = v ∧ (m.writeAll [(a, v), (b, w)]).read b = w :=
  ⟨read_writeAll_last m [] v (by simpa using h), read_writeAll_last m [(a, v)] w (by simp)⟩

/-- Settles O36: the two bytes of SP go to distinct addresses. -/
theorem storeStackPointer : Obligations.StoreStackPointer := by
  intro a s
  have hne : a + 1 ≠ a := by simp
  obtain ⟨hlo, hhi⟩ := read_writeAll_two s.mem (lo s.sp) (hi s.sp) hne
  exact ⟨rfl, _, rfl, hlo, hhi, frame_applyDelta _ s, ends_of_fallsThrough rfl rfl⟩

/-! ### SP plus a signed byte -/

/-- The bit above the low `i` bits, as the carry out of them. -/
theorem testBit_eq_decide_le {i n : Nat} (h : n < 2 ^ (i + 1)) : n.testBit i = decide (2 ^ i ≤ n) := by
  by_cases hle : 2 ^ i ≤ n
  · simpa [hle] using Nat.testBit_of_two_pow_le_and_two_pow_add_one_gt hle h
  · simpa [hle] using Nat.testBit_lt_two_pow (Nat.lt_of_not_le hle)

theorem toNat_and_lowMask {w : Nat} (v : BitVec w) {k : Nat} (hk : k ≤ w) :
    (v &&& BitVec.ofNat w (2 ^ k - 1)).toNat = v.toNat % 2 ^ k := by
  have hpow : 2 ^ k ≤ 2 ^ w := Nat.pow_le_pow_right two_pos hk
  have hmask : (2 ^ k - 1) % 2 ^ w = 2 ^ k - 1 := Nat.mod_eq_of_lt (by have := Nat.two_pow_pos k; omega)
  rw [BitVec.toNat_and, BitVec.toNat_ofNat, hmask, Nat.and_two_pow_sub_one_eq_mod]

/-- H and C of R324 are the carries of the unsigned byte added to SP's low byte. -/
theorem spOffsetFlags_eq (sp : Word) (e : Byte) :
    spOffsetFlags sp e =
      (decide (16 ≤ sp.toNat % 16 + e.toNat % 16), decide (256 ≤ sp.toNat % 256 + e.toNat)) := by
  have hspNibble : (sp &&& 0x0F#16).toNat = sp.toNat % 16 := toNat_and_lowMask sp (k := 4) (by decide)
  have hspByte : (sp &&& 0xFF#16).toNat = sp.toNat % 256 := toNat_and_lowMask sp (k := 8) (by decide)
  have heNibble : (e &&& 0x0F#8).toNat = e.toNat % 16 := toNat_and_lowMask e (k := 4) (by decide)
  have he : e.toNat < 256 := e.isLt
  rw [spOffsetFlags, hspNibble, hspByte, heNibble]
  exact Prod.ext (testBit_eq_decide_le (i := 4) (by omega)) (testBit_eq_decide_le (i := 8) (by omega))

/-- Adding the sign extension is adding the signed byte modulo 2^16 (R11). -/
theorem add_sext16 (w : Word) (e : Byte) : w + sext16 e = BitVec.ofInt 16 (w.toNat + e.toInt) := by
  rw [BitVec.ofInt_add, BitVec.ofInt_natCast, BitVec.ofNat_toNat, BitVec.setWidth_eq]
  rfl

/-- A write to an r16 operand leaves a delta's flag writes as they are. -/
theorem flag_applyDelta_setR16 (d : Delta) (p : R16) (w : Word) (s : State) (x : Flag) (hf : d.f = none) :
    flag (applyDelta (d.setR16 p w) s) x = (flagWrite d x).getD (flag s x) := by
  cases p <;> exact flag_applyDelta _ s x hf

/-- `LD HL,SP+e8` and `ADD SP,e8` differ in the cost and in where the sum goes (R243, R325). -/
theorem commit_spOffset (cost : Nat) (p : R16) (e : Byte) (s : State) :
    ∃ t, commit ((spOffsetDelta cost e s).setR16 p (s.sp + sext16 e)) s = .next t ∧
      value16 t p = BitVec.ofInt 16 (s.sp.toNat + e.toInt) ∧ flag t .z = false ∧ flag t .n = false ∧
      flag t .h = decide (16 ≤ s.sp.toNat % 16 + e.toNat % 16) ∧ flag t .c = decide (256 ≤ s.sp.toNat % 256 + e.toNat) ∧
      Frame s t (regs16 p) [.z, .n, .h, .c] (isSP p) [] ∧ Ends s t (after s 2) cost (auto s) := by
  refine ⟨_, rfl, ?value, ?z, ?n, ?h, ?c, ?frame, ?ends⟩
  case value => rw [value16_applyDelta_setR16, add_sext16]
  case z => exact flag_applyDelta_setR16 _ p _ s .z rfl
  case n => exact flag_applyDelta_setR16 _ p _ s .n rfl
  case h => exact (flag_applyDelta_setR16 _ p _ s .h rfl).trans (congrArg Prod.fst (spOffsetFlags_eq s.sp e))
  case c => exact (flag_applyDelta_setR16 _ p _ s .c rfl).trans (congrArg Prod.snd (spOffsetFlags_eq s.sp e))
  case frame => cases p <;> exact frame_applyDelta _ s
  case ends => cases p <;> exact ends_of_fallsThrough rfl rfl

/-- Settles O37: the sum goes to HL or to SP. -/
theorem stackPointerOffset : Obligations.StackPointerOffset := fun e s =>
  ⟨⟨rfl, commit_spOffset 12 .hl e s⟩, ⟨rfl, commit_spOffset 16 .sp e s⟩⟩

/-! ### PUSH and POP -/

theorem encode_push_pop (q : R16Stk) :
    encode (.push q) = [3#2 ++ q.code ++ 5#4] ∧ encode (.pop q) = [3#2 ++ q.code ++ 1#4] := by
  cases q <;> exact ⟨rfl, rfl⟩

theorem exec_push (q : R16Stk) (s : State) : exec (.push q) s = pushR16 q s := by
  cases q <;> rfl

theorem r16stk_eq (s : State) (q : R16Stk) : s.r16stk q = valueStk s q := by
  cases q with
  | bc | de | hl => rfl
  | af => exact congrArg (pair s.a) (readF_eq s)

/-- A push leaves the high byte of the word at SP-1 and the low byte at SP-2 (R380). -/
theorem read_writeAll_pushEdits (m : Memory) (sp w : Word) :
    (m.writeAll (pushEdits sp w)).read (sp - 1) = hi w ∧ (m.writeAll (pushEdits sp w)).read (sp - 2) = lo w :=
  read_writeAll_two m (hi w) (lo w) (by simp)

/-- Settles O38: PUSH stores the two bytes of the pair and moves SP. -/
theorem pushStoresPair : Obligations.PushStoresPair := by
  intro q s
  rw [exec_push, ← r16stk_eq]
  obtain ⟨hencode, -⟩ := encode_push_pop q
  obtain ⟨hhi, hlo⟩ := read_writeAll_pushEdits s.mem s.sp (s.r16stk q)
  exact ⟨hencode, _, rfl, hhi, hlo, rfl, frame_applyDelta _ s, ends_of_fallsThrough rfl rfl⟩

/-- A `POP` of two registers, the high one `x` (R245). -/
theorem commit_pop {x y : Reg} (hxy : x ≠ y) (s : State) :
    ∃ t, commit { len := 1, cost := 12, regs := [(x, hi (s.read16 s.sp)), (y, lo (s.read16 s.sp))], sp := some (s.sp + 2) } s =
        .next t ∧
      t.reg x = s.read (s.sp + 1) ∧ t.reg y = s.read s.sp ∧ t.sp = s.sp + 2 ∧ Frame s t [x, y] [] true [] ∧
      Ends s t (after s 1) 12 (auto s) :=
  ⟨_, rfl, by simp [hxy, State.read16], by simp [State.read16], rfl, frame_applyDelta _ s, ends_of_fallsThrough rfl rfl⟩

/-- `POP AF` writes F as a whole, so its low nibble is dropped (R34, R246). -/
theorem exec_popAF (s : State) :
    ∃ t, exec .popAF s = .next t ∧ t.a = s.read (s.sp + 1) ∧ t.f = s.read s.sp &&& 0xF0#8 ∧ t.sp = s.sp + 2 ∧
      Frame s t [.a] [.z, .n, .h, .c] true [] ∧ Ends s t (after s 1) 12 (auto s) :=
  ⟨_, rfl, hi_pair _ _, congrArg (· &&& 0xF0#8) (lo_pair _ _), rfl, frame_applyDelta _ s, ends_of_fallsThrough rfl rfl⟩

/-- Settles O39: three pops of two registers, and `POP AF`. -/
theorem popLoadsPair : Obligations.PopLoadsPair := fun s =>
  ⟨fun q => (encode_push_pop q).2, commit_pop (x := .b) (y := .c) (by decide) s, commit_pop (x := .d) (y := .e) (by decide) s,
    commit_pop (x := .h) (y := .l) (by decide) s, exec_popAF s⟩

end Sys2Proof.Proofs
end

