-- ==== Sys2Proof/Proofs/Alu8.lean ====
section
/-! PROOFS. Proofs/Alu8.lean: 8-bit arithmetic and logic (43_alu8.md). -/

namespace Sys2Proof.Proofs

open Sys2Proof.Machine Sys2Proof.Claims

/-! ### The eight operations on A (R260) -/

theorem encode_alu (op : AluOp) (src : AluSrc) : encode (.alu op src) = aluBytes op src := by
  cases src with
  | reg r => cases op <;> cases r <;> rfl
  | memHL | imm n => cases op <;> rfl

theorem exec_alu (op : AluOp) (src : AluSrc) (s : State) : exec (.alu op src) s = aluOnA op src s := by
  cases src with
  | reg r => cases op <;> cases r <;> rfl
  | memHL | imm n => cases op <;> rfl

theorem aluSrc_eq (s : State) (src : AluSrc) : s.aluSrc src = aluValue s src := by
  cases src <;> rfl

/-- A frame still holds when more registers may change. -/
theorem frame_of_subset {s t : State} {regs regs' : List Reg} {flags : List Flag} {sp : Bool} {stored : List Word}
    (h : Frame s t regs flags sp stored) (hsub : regs ⊆ regs') : Frame s t regs' flags sp stored :=
  { h with reg := fun r hr => h.reg r fun hmem => hr (hsub hmem) }

/-- An ALU instruction whose operation computes `o`, and leaves A as `a`: only CP does not write `o.res` (R284). -/
theorem alu_instruction (op : AluOp) (src : AluSrc) (s : State) {o : AluResult} {a : Byte}
    (ho : alu8 op s.a (aluValue s src) (flag s .c) = o) (ha : (if aluWritesA op then o.res else s.a) = a) :
    encode (.alu op src) = aluBytes op src ∧
    ∃ t, exec (.alu op src) s = .next t ∧ t.a = a ∧ flag t .z = o.z ∧ flag t .n = o.n ∧ flag t .h = o.h ∧ flag t .c = o.c ∧
      Frame s t [.a] [.z, .n, .h, .c] false [] ∧ Ends s t (after s (aluLength src)) (aluCycles src) (auto s) := by
  rw [← aluSrc_eq] at ho
  subst ho ha
  rw [exec_alu]
  refine ⟨encode_alu op src, _, rfl, ?value, flag_applyDelta _ s .z rfl, flag_applyDelta _ s .n rfl, flag_applyDelta _ s .h rfl,
    flag_applyDelta _ s .c rfl, ?frame, ?ends⟩
  case value => cases op <;> rfl
  case frame => cases op <;> exact frame_of_subset (frame_applyDelta _ s) (by simp [Delta.setAluFlags, aluWritesA])
  case ends => cases src <;> exact ends_of_fallsThrough rfl rfl

/-- Z of R261, on the exact sum. -/
theorem ofNat8_eq_zero_iff (n : Nat) : BitVec.ofNat 8 n = 0#8 ↔ n % 256 = 0 := by
  rw [← BitVec.toNat_inj, BitVec.toNat_ofNat]; rfl

/-- Z of R262, on the exact difference. -/
theorem ofInt8_eq_zero_iff (d : Int) : BitVec.ofInt 8 d = 0#8 ↔ d % 256 = 0 := by
  rw [← BitVec.toNat_inj, BitVec.toNat_ofInt, BitVec.toNat_ofNat]; omega

theorem lowNibble_toNat (v : Byte) : (v &&& 0x0F#8).toNat = v.toNat % 16 := toNat_and_lowMask v (k := 4) (by decide)

/-- H and C of R261 are the carries out of bit 3 and bit 7. -/
theorem add8_eq (a v : Byte) (cin : Bool) :
    add8 a v cin =
      { res := BitVec.ofNat 8 (a.toNat + v.toNat + bit cin)
        z := decide ((a.toNat + v.toNat + bit cin) % 256 = 0)
        n := false
        h := decide (16 ≤ a.toNat % 16 + v.toNat % 16 + bit cin)
        c := decide (256 ≤ a.toNat + v.toNat + bit cin) } := by
  have hcin : carryNat cin ≤ 1 := by cases cin <;> decide
  have hh := testBit_eq_decide_le (i := 4) (n := a.toNat % 16 + v.toNat % 16 + carryNat cin) (by omega)
  have hc := testBit_eq_decide_le (i := 8) (n := a.toNat + v.toNat + carryNat cin) (by omega)
  simp only [add8, lowNibble_toNat, ofNat8_eq_zero_iff, hh, hc]
  rfl

/-- H and C of R262 are the borrows into bit 3 and out of bit 7. -/
theorem sub8_eq (a v : Byte) (bin : Bool) :
    sub8 a v bin =
      { res := BitVec.ofInt 8 ((a.toNat : Int) - v.toNat - bit bin)
        z := decide (((a.toNat : Int) - v.toNat - bit bin) % 256 = 0)
        n := true
        h := decide (a.toNat % 16 < v.toNat % 16 + bit bin)
        c := decide (a.toNat < v.toNat + bit bin) } := by
  have hborrow (m n k : Nat) : (m : Int) - n - k < 0 ↔ m < n + k := by omega
  simp only [sub8, lowNibble_toNat, ofInt8_eq_zero_iff, hborrow]
  rfl

/-- Settles O40: ADD is ADC without the carry-in. -/
theorem addSetsResultAndFlags : Obligations.AddSetsResultAndFlags := by
  rintro carry src s op cin sum rfl rfl rfl
  cases carry with
  | true => exact alu_instruction .adc src s (add8_eq ..) rfl
  | false => exact alu_instruction .add src s (add8_eq ..) rfl

/-- Settles O41: CP is SUB that leaves A. -/
theorem subtractSetsResultAndFlags : Obligations.SubtractSetsResultAndFlags := by
  rintro op src s bin (rfl | rfl | rfl) rfl
  · exact alu_instruction .sub src s (sub8_eq ..) rfl
  · exact alu_instruction .sbc src s (sub8_eq ..) rfl
  · exact alu_instruction .cp src s (sub8_eq ..) rfl

/-- Settles O42: the three operations share their flags but for H. -/
theorem logicSetsResultAndFlags : Obligations.LogicSetsResultAndFlags := by
  rintro src s op res (⟨rfl, rfl⟩ | ⟨rfl, rfl⟩ | ⟨rfl, rfl⟩)
  · exact alu_instruction .and src s rfl rfl
  · exact alu_instruction .xor src s rfl rfl
  · exact alu_instruction .or src s rfl rfl

/-! ### INC and DEC -/

theorem encode_inc8_dec8 (z : R8) :
    encode (.inc8 z) = [0#2 ++ z.code ++ 4#3] ∧ encode (.dec8 z) = [0#2 ++ z.code ++ 5#3] := by
  cases z with
  | memHL => exact ⟨rfl, rfl⟩
  | reg r => cases r <;> exact ⟨rfl, rfl⟩

theorem exec_inc8_dec8 (z : R8) (s : State) : exec (.inc8 z) s = incR8 z s ∧ exec (.dec8 z) s = decR8 z s := by
  cases z with
  | memHL => exact ⟨rfl, rfl⟩
  | reg r => cases r <;> exact ⟨rfl, rfl⟩

theorem r8_eq (s : State) (z : R8) : s.r8 z = value8 s z := by
  cases z <;> rfl

/-- A delta whose last write is that of an r8 operand leaves the operand the value written (R344). -/
theorem holds8_applyDelta_setR8 (d : Delta) (z : R8) (v : Byte) (s : State) : Holds8 s (applyDelta (d.setR8 s z v) s) z v := by
  cases z with
  | reg r =>
    show (applyDelta (d.setR8 s (.reg r) v) s).reg r = v
    simp [Delta.setR8, writeRegs_append]
  | memHL => exact read_writeAll_last s.mem d.mem v (by simp)

/-- A write to an r8 operand leaves a delta's flag writes as they are. -/
theorem flag_applyDelta_setR8 (d : Delta) (z : R8) (v : Byte) (s : State) (x : Flag) (hf : d.f = none) :
    flag (applyDelta (d.setR8 s z v) s) x = (flagWrite d x).getD (flag s x) := by
  cases z <;> exact flag_applyDelta _ s x hf

/-- INC and DEC differ in the value they write and in the flags. -/
theorem commit_incDec8 (z : R8) (v : Byte) (fz fn fh : Bool) (s : State) :
    ∃ t, commit (({ len := 1, cost := r8Cost z 4 12, flagZ := some fz, flagN := some fn, flagH := some fh } : Delta).setR8 s z v) s =
        .next t ∧
      Holds8 s t z v ∧ flag t .z = fz ∧ flag t .n = fn ∧ flag t .h = fh ∧
      Frame s t (regs8 z) [.z, .n, .h] false (stored8 s z) ∧ Ends s t (after s 1) (cost8 z 4 12) (auto s) := by
  refine ⟨_, rfl, holds8_applyDelta_setR8 _ z v s, flag_applyDelta_setR8 _ z v s .z rfl, flag_applyDelta_setR8 _ z v s .n rfl,
    flag_applyDelta_setR8 _ z v s .h rfl, ?frame, ?ends⟩
  case frame => cases z <;> exact frame_applyDelta _ s
  case ends => cases z <;> exact ends_of_fallsThrough rfl rfl

theorem add_one_eq_zero_iff (v : Byte) : v + 1 = 0#8 ↔ v = 0xFF#8 := by bv_omega

theorem sub_one_eq_zero_iff (v : Byte) : v - 1 = 0#8 ↔ v = 0x01#8 := by bv_omega

/-- The H of an increment is a full low nibble (R287). -/
theorem incHalf_eq (v : Byte) : incHalf v = decide (v.toNat % 16 = 15) := by
  simp only [incHalf, ← BitVec.toNat_inj, lowNibble_toNat]; rfl

/-- The H of a decrement is an empty low nibble (R289). -/
theorem decHalf_eq (v : Byte) : decHalf v = decide (v.toNat % 16 = 0) := by
  simp only [decHalf, ← BitVec.toNat_inj, lowNibble_toNat]; rfl

/-- Settles O43. -/
theorem incrementAndDecrementByte : Obligations.IncrementAndDecrementByte := by
  intro z s
  obtain ⟨hencodeInc, hencodeDec⟩ := encode_inc8_dec8 z
  obtain ⟨hexecInc, hexecDec⟩ := exec_inc8_dec8 z s
  simp only [hexecInc, hexecDec, ← r8_eq, ← add_one_eq_zero_iff, ← sub_one_eq_zero_iff, ← incHalf_eq, ← decHalf_eq]
  exact ⟨⟨hencodeInc, commit_incDec8 ..⟩, ⟨hencodeDec, commit_incDec8 ..⟩⟩

/-! ### DAA -/

theorem ofInt_sub {w : Nat} (x y : Int) : BitVec.ofInt w (x - y) = BitVec.ofInt w x - BitVec.ofInt w y := by
  rw [Int.sub_eq_add_neg, BitVec.ofInt_add, BitVec.ofInt_neg, BitVec.sub_eq_add_neg]

/-- The adjustment after an addition (R291): adding 0x60 leaves the low nibble that the second test reads. -/
theorem daa_after_addition (a : Byte) (h c : Bool) :
    daa a false h c =
      (BitVec.ofInt 8 ((a.toNat : Int) + (if (c || decide (0x99 < a.toNat)) = true then 0x60 else 0) +
          (if (h || decide (9 < a.toNat % 16)) = true then 0x06 else 0)),
        c || decide (0x99 < a.toNat)) := by
  have hhigh : (0x99#8 < a) = (0x99 < a.toNat) := by rw [BitVec.lt_def]; rfl
  have hlow (v : Byte) : (0x09#8 < (v &&& 0x0F#8)) = (9 < v.toNat % 16) := by rw [BitVec.lt_def, lowNibble_toNat]; rfl
  simp only [daa, hhigh, hlow, Bool.false_eq_true, if_false]
  generalize (c || decide (0x99 < a.toNat)) = high
  have hsame : (if high = true then a + 0x60#8 else a).toNat % 16 = a.toNat % 16 := by split <;> bv_omega
  rw [hsame]
  generalize (h || decide (9 < a.toNat % 16)) = low
  cases high <;> cases low <;> simp [BitVec.ofInt_add]

/-- The adjustment after a subtraction (R291). -/
theorem daa_after_subtraction (a : Byte) (h c : Bool) :
    daa a true h c =
      (BitVec.ofInt 8 ((a.toNat : Int) - (if c then 0x60 else 0) - (if h then 0x06 else 0)), c) := by
  cases c <;> cases h <;> simp [daa, ofInt_sub]

/-- `DAA`, where the adjustment answers `v` and `c`. -/
theorem daa_instruction (s : State) {v : Byte} {c : Bool} (hdaa : daa s.a (flag s .n) (flag s .h) (flag s .c) = (v, c)) :
    encode .daa = [0x27#8] ∧
    ∃ t, exec .daa s = .next t ∧ t.a = v ∧ flag t .z = decide (v = 0#8) ∧ flag t .h = false ∧ flag t .c = c ∧
      Frame s t [.a] [.z, .h, .c] false [] ∧ Ends s t (after s 1) 4 (auto s) := by
  obtain ⟨rfl, rfl⟩ := Prod.mk.inj hdaa
  exact ⟨rfl, _, rfl, rfl, flag_applyDelta _ s .z rfl, flag_applyDelta _ s .h rfl, flag_applyDelta _ s .c rfl,
    frame_applyDelta _ s, ends_of_fallsThrough rfl rfl⟩

/-- Settles O44: the two cases of R291. -/
theorem decimalAdjust : Obligations.DecimalAdjust := by
  rintro s res c (⟨hn, rfl, rfl⟩ | ⟨hn, rfl, rfl⟩)
  · exact daa_instruction s (by rw [hn, daa_after_addition])
  · exact daa_instruction s (by rw [hn, daa_after_subtraction])

/-! ### Decimal arithmetic -/

/-- What DAA leaves in A and C when A and the flags are those of an ALU result. -/
def daaOfAlu (o : AluResult) : Byte × Bool := daa o.res o.n o.h o.c

theorem bcd_toNat {x : Nat} (hx : x < 100) : (bcd x).toNat = 16 * (x / 10) + x % 10 := by
  rw [bcd, BitVec.toNat_ofNat]
  omega

theorem bcd_eq_zero_iff {x : Nat} (hx : x < 100) : bcd x = 0#8 ↔ x = 0 := by
  rw [← BitVec.toNat_inj, bcd_toNat hx, BitVec.toNat_ofNat]
  omega

theorem ofInt_eq_bcd {d : Int} {r : Nat} (hr : r < 100) (h : d % 256 = 16 * (r / 10 : Nat) + (r % 10 : Nat)) :
    BitVec.ofInt 8 d = bcd r := by
  apply BitVec.eq_of_toNat_eq
  rw [BitVec.toNat_ofInt, bcd_toNat hr]
  omega

section
variable {x y : Nat} (hx : x < 100) (hy : y < 100)
include hx hy

/-- After the binary sum of two BCD bytes, DAA's test for 0x60 is that of the decimal carry. -/
theorem high_adjust_iff :
    256 ≤ (bcd x).toNat + (bcd y).toNat ∨ 0x99 < ((bcd x).toNat + (bcd y).toNat) % 256 ↔ 100 ≤ x + y := by
  have hwrap (n : Nat) (hn : n < 512) : 256 ≤ n ∨ 0x99 < n % 256 ↔ 0x99 < n := by omega
  rw [bcd_toNat hx, bcd_toNat hy, hwrap _ (by omega)]
  omega

/-- After the binary sum of two BCD bytes, DAA's test for 0x06 is that of the carry out of the units. -/
theorem low_adjust_iff :
    16 ≤ (bcd x).toNat % 16 + (bcd y).toNat % 16 ∨ 9 < ((bcd x).toNat + (bcd y).toNat) % 256 % 16 ↔ 10 ≤ x % 10 + y % 10 := by
  rw [bcd_toNat hx, bcd_toNat hy]
  omega

/-- The adjusted sum of two BCD bytes is the decimal sum. -/
theorem adjusted_sum :
    BitVec.ofInt 8 ((((bcd x).toNat + (bcd y).toNat) % 256 : Nat) + (if 100 ≤ x + y then 0x60 else 0) +
        (if 10 ≤ x % 10 + y % 10 then 0x06 else 0)) = bcd ((x + y) % 100) := by
  apply ofInt_eq_bcd (by omega)
  rw [bcd_toNat hx, bcd_toNat hy]
  split <;> split <;> omega

theorem borrow_iff : (bcd x).toNat < (bcd y).toNat ↔ x < y := by
  rw [bcd_toNat hx, bcd_toNat hy]
  omega

theorem half_borrow_iff : (bcd x).toNat % 16 < (bcd y).toNat % 16 ↔ x % 10 < y % 10 := by
  rw [bcd_toNat hx, bcd_toNat hy]
  omega

/-- The adjusted difference of two BCD bytes is the decimal difference. -/
theorem adjusted_difference :
    BitVec.ofInt 8 ((BitVec.ofInt 8 ((bcd x).toNat - (bcd y).toNat)).toNat - (if x < y then 0x60 else 0) -
        (if x % 10 < y % 10 then 0x06 else 0)) = bcd ((x + 100 - y) % 100) := by
  apply ofInt_eq_bcd (by omega)
  rw [bcd_toNat hx, bcd_toNat hy, BitVec.toNat_ofInt]
  split <;> split <;> omega

/-- DAA turns the binary sum of two BCD bytes into the decimal sum (R261, R291). -/
theorem daaOfAlu_add8_bcd : daaOfAlu (add8 (bcd x) (bcd y) false) = (bcd ((x + y) % 100), decide (100 ≤ x + y)) := by
  simp only [daaOfAlu, add8_eq, bit, Bool.false_eq_true, if_false, Nat.add_zero, daa_after_addition, BitVec.toNat_ofNat,
    ← Bool.decide_or, decide_eq_true_eq]
  simp only [Nat.reducePow, high_adjust_iff hx hy, low_adjust_iff hx hy, adjusted_sum hx hy]

/-- DAA turns the binary difference of two BCD bytes into the decimal difference (R262, R291). -/
theorem daaOfAlu_sub8_bcd : daaOfAlu (sub8 (bcd x) (bcd y) false) = (bcd ((x + 100 - y) % 100), decide (x < y)) := by
  simp only [daaOfAlu, sub8_eq, bit, Bool.false_eq_true, if_false, Nat.add_zero, daa_after_subtraction, decide_eq_true_eq]
  simp only [Nat.cast_zero, sub_zero, borrow_iff hx hy, half_borrow_iff hx hy, adjusted_difference hx hy]

end

/-- An ALU instruction that writes its result to A, then `DAA`. -/
theorem alu_then_daa {op : AluOp} {src : AluSrc} {s : State} {o : AluResult} {v : Byte} {c : Bool}
    (ho : alu8 op s.a (aluValue s src) (flag s .c) = o) (hop : aluWritesA op = true) (hdaa : daaOfAlu o = (v, c)) :
    ∃ t u, exec (.alu op src) s = .next t ∧ exec .daa t = .next u ∧ u.a = v ∧ flag u .c = c ∧ flag u .z = decide (v = 0#8) := by
  obtain ⟨-, t, halu, hta, -, htn, hth, htc, -⟩ := alu_instruction op src s ho (if_pos hop)
  obtain ⟨-, u, hexec, hua, huz, -, huc, -⟩ := daa_instruction t (v := v) (c := c) (by rw [hta, htn, hth, htc]; exact hdaa)
  exact ⟨t, u, halu, hexec, hua, huc, huz⟩

/-- Settles O45: DAA adjusts the result of the ADD and that of the SUB. -/
theorem decimalArithmeticIsCorrect : Obligations.DecimalArithmeticIsCorrect := by
  intro s x y hx hy ha hb
  have hzero : x = y ↔ (x + 100 - y) % 100 = 0 := by omega
  have hhundred (n : Nat) : n % 100 < 100 := Nat.mod_lt n (by decide)
  have hadd : alu8 .add s.a s.b (flag s .c) = add8 (bcd x) (bcd y) false := by rw [ha, hb]; rfl
  have hsub : alu8 .sub s.a s.b (flag s .c) = sub8 (bcd x) (bcd y) false := by rw [ha, hb]; rfl
  simp only [hzero, ← bcd_eq_zero_iff (hhundred _)]
  exact ⟨alu_then_daa (src := .reg .b) hadd rfl (daaOfAlu_add8_bcd hx hy),
    alu_then_daa (src := .reg .b) hsub rfl (daaOfAlu_sub8_bcd hx hy)⟩

/-! ### CPL, SCF and CCF -/

/-- `SCF` and `CCF` differ in the carry they write (R293, R294). -/
theorem writeCarry_instruction (c : Bool) (s : State) :
    ∃ t, writeCarry c s = .next t ∧ flag t .n = false ∧ flag t .h = false ∧ flag t .c = c ∧
      Frame s t [] [.n, .h, .c] false [] ∧ Ends s t (after s 1) 4 (auto s) :=
  ⟨_, rfl, flag_applyDelta _ s .n rfl, flag_applyDelta _ s .h rfl, flag_applyDelta _ s .c rfl, frame_applyDelta _ s,
    ends_of_fallsThrough rfl rfl⟩

/-- `CPL` complements each bit of A (R292). -/
theorem complementA_instruction (s : State) :
    ∃ t, complementA s = .next t ∧ (∀ i, i < 8 → t.a.getLsbD i = !s.a.getLsbD i) ∧ flag t .n = true ∧ flag t .h = true ∧
      Frame s t [.a] [.n, .h] false [] ∧ Ends s t (after s 1) 4 (auto s) := by
  have hbits (i : Nat) (hi : i < 8) : (~~~s.a).getLsbD i = !s.a.getLsbD i := by simp [hi]
  exact ⟨_, rfl, hbits, flag_applyDelta _ s .n rfl, flag_applyDelta _ s .h rfl, frame_applyDelta _ s, ends_of_fallsThrough rfl rfl⟩

/-- Settles O46. -/
theorem complementAndCarryFlag : Obligations.ComplementAndCarryFlag := fun s =>
  ⟨⟨rfl, complementA_instruction s⟩, ⟨rfl, writeCarry_instruction true s⟩, ⟨rfl, writeCarry_instruction (!flag s .c) s⟩⟩

end Sys2Proof.Proofs
end

