-- ==== Sys2Proof/Proofs/Alu16.lean ====
section
/-! PROOFS. Proofs/Alu16.lean: 16-bit arithmetic (44_alu16.md). ADD SP,e8 stands in Proofs/Load16.lean. -/

namespace Sys2Proof.Proofs

open Sys2Proof.Machine Sys2Proof.Claims

theorem r16_eq (s : State) (p : R16) : s.r16 p = value16 s p := by
  cases p <;> rfl

/-! ### ADD HL,r16 -/

theorem encode_addHLR16 (p : R16) : encode (.addHLR16 p) = [0#2 ++ p.code ++ 9#4] := by
  cases p <;> rfl

theorem exec_addHLR16 (p : R16) (s : State) : exec (.addHLR16 p) s = addHL p s := by
  cases p <;> rfl

/-- The sum modulo 2^16, the carry out of the low twelve bits and the carry out of all sixteen (R320). -/
theorem add16_eq (a b : Word) :
    add16 a b = (BitVec.ofNat 16 (a.toNat + b.toNat), decide (4096 ≤ a.toNat % 4096 + b.toNat % 4096),
      decide (65536 ≤ a.toNat + b.toNat)) := by
  have ha : a.toNat < 65536 := a.isLt
  have hb : b.toNat < 65536 := b.isLt
  have hlow (v : Word) : (v &&& 0x0FFF#16).toNat = v.toNat % 4096 := toNat_and_lowMask v (k := 12) (by decide)
  have hhalf : (a.toNat % 4096 + b.toNat % 4096).testBit 12 = decide (4096 ≤ a.toNat % 4096 + b.toNat % 4096) :=
    testBit_eq_decide_le (i := 12) (by omega)
  have hcarry : (a.toNat + b.toNat).testBit 16 = decide (65536 ≤ a.toNat + b.toNat) := testBit_eq_decide_le (i := 16) (by omega)
  simp only [add16, hlow, hhalf, hcarry]

/-- `ADD HL,r16` writes what `add16` answers to HL, H and C, and clears N (R321). -/
theorem addHL_instruction (p : R16) (s : State) {w : Word} {fh fc : Bool} (hadd : add16 s.hl (s.r16 p) = (w, fh, fc)) :
    ∃ t, addHL p s = .next t ∧ value16 t .hl = w ∧ flag t .n = false ∧ flag t .h = fh ∧ flag t .c = fc ∧
      Frame s t [.h, .l] [.n, .h, .c] false [] ∧ Ends s t (after s 1) 8 (auto s) := by
  rw [addHL, hadd]
  exact ⟨_, rfl, value16_applyDelta_setR16 _ .hl w s, flag_applyDelta_setR16 _ .hl w s .n rfl, flag_applyDelta_setR16 _ .hl w s .h rfl,
    flag_applyDelta_setR16 _ .hl w s .c rfl, frame_applyDelta _ s, ends_of_fallsThrough rfl rfl⟩

/-- Settles O47: the carries of `add16` are the two comparisons. -/
theorem addToHL : Obligations.AddToHL := by
  intro p s
  rw [exec_addHLR16, ← r16_eq]
  exact ⟨encode_addHLR16 p, addHL_instruction p s (add16_eq s.hl (s.r16 p))⟩

/-! ### INC r16 and DEC r16 -/

theorem encode_inc16_dec16 (p : R16) :
    encode (.inc16 p) = [0#2 ++ p.code ++ 3#4] ∧ encode (.dec16 p) = [0#2 ++ p.code ++ 11#4] := by
  cases p <;> exact ⟨rfl, rfl⟩

theorem exec_inc16_dec16 (p : R16) (s : State) :
    exec (.inc16 p) s = bumpR16 1#16 p s ∧ exec (.dec16 p) s = bumpR16 (-1#16) p s := by
  cases p <;> exact ⟨rfl, rfl⟩

/-- Settles O48: both only load a word, the old one plus 1 or plus -1. -/
theorem incrementAndDecrementPair : Obligations.IncrementAndDecrementPair := by
  intro p s
  obtain ⟨hencodeInc, hencodeDec⟩ := encode_inc16_dec16 p
  obtain ⟨hexecInc, hexecDec⟩ := exec_inc16_dec16 p s
  rw [hexecInc, hexecDec, ← r16_eq, BitVec.sub_eq_add_neg]
  exact ⟨⟨hencodeInc, commit_setR16 one_ne_zero 8 p (s.r16 p + 1#16) s⟩,
    ⟨hencodeDec, commit_setR16 one_ne_zero 8 p (s.r16 p + -1#16) s⟩⟩

end Sys2Proof.Proofs
end

