-- ==== Sys2Proof/Proofs/RotateShiftBit.lean ====
section
/-! PROOFS. Proofs/RotateShiftBit.lean: rotates, shifts, SWAP, BIT, RES and SET (45_rotate_shift_bit.md). -/

namespace Sys2Proof.Proofs

open Sys2Proof.Machine Sys2Proof.Claims

/-! ### The bits of a rotate, shift or SWAP -/

/-- A shift to the left brings `b` in at bit 0. -/
theorem getLsbD_shiftLeft_or_bitByte (v : Byte) (b : Bool) {k : Nat} (hk : k < 8) :
    ((v <<< 1) ||| bitByte b).getLsbD k = if k = 0 then b else v.getLsbD (k - 1) := by
  rw [BitVec.getLsbD_or, BitVec.getLsbD_shiftLeft]
  cases k with
  | zero => cases b <;> rfl
  | succ j => cases b <;> simp [bitByte, hk]

/-- A shift to the right brings `b` in at bit 7. -/
theorem getLsbD_ushiftRight_or_bitByte (v : Byte) (b : Bool) {k : Nat} (hk : k < 8) :
    ((v >>> 1) ||| (bitByte b <<< 7)).getLsbD k = if k = 7 then b else v.getLsbD (k + 1) := by
  have htop : (bitByte b <<< 7).getLsbD k = (b && decide (k = 7)) := by
    cases b with
    | false => simp [bitByte]
    | true => exact getLsbD_one_shiftLeft 7 k hk
  rw [BitVec.getLsbD_or, BitVec.getLsbD_ushiftRight, htop, Nat.add_comm 1 k]
  by_cases h7 : k = 7 <;> simp [h7]

/-- The two nibbles change places (R357). -/
theorem getLsbD_nibbleSwap (v : Byte) {k : Nat} (hk : k < 8) :
    (((v &&& 0x0F#8) <<< 4) ||| (v >>> 4)).getLsbD k = v.getLsbD ((k + 4) % 8) := by
  rw [BitVec.getLsbD_or, BitVec.getLsbD_shiftLeft, BitVec.getLsbD_ushiftRight, BitVec.getLsbD_and]
  by_cases h4 : k < 4
  case pos =>
    have hmod : (k + 4) % 8 = 4 + k := by omega
    simp [h4, hmod]
  case neg =>
    have hmod : (k + 4) % 8 = k - 4 := by omega
    have hmask : ∀ j < 4, (0x0F#8).getLsbD j = true := by decide
    have hshift : v.getLsbD (4 + k) = false := BitVec.getLsbD_of_ge v (4 + k) (by omega)
    simp [h4, hk, hmod, hmask (k - 4) (by omega), hshift]

/-- The sign bit, as SRA brings it in (R355). -/
theorem and_signBit_eq (v : Byte) : v &&& 0x80#8 = bitByte (v.getLsbD 7) <<< 7 := by
  revert v
  decide

/-- Every operation but SWAP shifts by one place and brings one bit in: the bit shifted out, the carry, the sign, or 0. -/
theorem getLsbD_rotate8 (op : RotOp) (v : Byte) (cin : Bool) {k : Nat} (hk : k < 8) :
    (rotate8 op v cin).1.getLsbD k = rotBit op v cin k := by
  cases op with
  | rlc =>
    refine (getLsbD_shiftLeft_or_bitByte v (v.getLsbD 7) hk).trans ?_
    rw [rotBit, ← apply_ite v.getLsbD]
    congr 1
    split <;> omega
  | rrc =>
    refine (getLsbD_ushiftRight_or_bitByte v (v.getLsbD 0) hk).trans ?_
    rw [rotBit, ← apply_ite v.getLsbD]
    congr 1
    split <;> omega
  | rl => exact getLsbD_shiftLeft_or_bitByte v cin hk
  | rr => exact getLsbD_ushiftRight_or_bitByte v cin hk
  | sla =>
    have hzero : v <<< 1 ||| bitByte false = v <<< 1 := BitVec.or_zero
    rw [rotate8, ← hzero]
    exact getLsbD_shiftLeft_or_bitByte v false hk
  | sra =>
    rw [rotate8, and_signBit_eq]
    exact getLsbD_ushiftRight_or_bitByte v (v.getLsbD 7) hk
  | swap => exact getLsbD_nibbleSwap v hk
  | srl =>
    have hzero : v >>> 1 ||| bitByte false <<< 7 = v >>> 1 := BitVec.or_zero
    rw [rotate8, ← hzero]
    exact getLsbD_ushiftRight_or_bitByte v false hk

/-- The carry is the bit shifted out, and 0 after SWAP. -/
theorem rotate8_carry (op : RotOp) (v : Byte) (cin : Bool) : (rotate8 op v cin).2 = rotCarry op v := by
  cases op <;> rfl

/-! ### The rotates of A -/

/-- `RLCA`, `RRCA`, `RLA` and `RRA` differ in the operation only. -/
theorem rotateA_instruction (op : RotOp) (s : State) :
    ∃ t, rotateA op s = .next t ∧ (∀ k, k < 8 → t.a.getLsbD k = rotBit op s.a (flag s .c) k) ∧
      flag t .z = false ∧ flag t .n = false ∧ flag t .h = false ∧ flag t .c = rotCarry op s.a ∧
      Frame s t [.a] [.z, .n, .h, .c] false [] ∧ Ends s t (after s 1) 4 (auto s) :=
  ⟨_, rfl, fun _ hk => getLsbD_rotate8 op s.a (flag s .c) hk, flag_applyDelta _ s .z rfl, flag_applyDelta _ s .n rfl,
    flag_applyDelta _ s .h rfl, (flag_applyDelta _ s .c rfl).trans (rotate8_carry op s.a (flag s .c)), frame_applyDelta _ s,
    ends_of_fallsThrough rfl rfl⟩

/-- Settles O49: the four are one meaning, indexed by the operation. -/
theorem rotateAccumulator : Obligations.RotateAccumulator := by
  rintro i op b s (⟨rfl, rfl, rfl⟩ | ⟨rfl, rfl, rfl⟩ | ⟨rfl, rfl, rfl⟩ | ⟨rfl, rfl, rfl⟩)
  · exact ⟨rfl, rotateA_instruction .rlc s⟩
  · exact ⟨rfl, rotateA_instruction .rrc s⟩
  · exact ⟨rfl, rotateA_instruction .rl s⟩
  · exact ⟨rfl, rotateA_instruction .rr s⟩

/-! ### The extended instructions -/

/-- An extended instruction is encoded as 0xCB and the byte of its cell in the extended map (R128). -/
theorem encode_decodeExtended (b1 : Byte) : encode (decodeExtended b1) = [0xCB#8, b1] :=
  encode_decodeBytes 0xCB#8 b1 0#8

theorem encode_rot (op : RotOp) (z : R8) : encode (.rot op z) = [0xCB#8, 0#2 ++ op.code ++ z.code] := by
  rw [← decodeExtended_rot, encode_decodeExtended]

theorem encode_bitNumber (b : BitVec 3) (z : R8) :
    encode (.bit b z) = [0xCB#8, 1#2 ++ b ++ z.code] ∧ encode (.res b z) = [0xCB#8, 2#2 ++ b ++ z.code] ∧
    encode (.set b z) = [0xCB#8, 3#2 ++ b ++ z.code] := by
  obtain ⟨hbit, hres, hset⟩ := decodeExtended_bitNumber b z
  rw [← hbit, ← hres, ← hset]
  exact ⟨encode_decodeExtended _, encode_decodeExtended _, encode_decodeExtended _⟩

theorem r8Cost_eq (z : R8) (reg mem : Nat) : r8Cost z reg mem = cost8 z reg mem := by
  cases z <;> rfl

/-- A delta that only writes flags and an r8 operand: its frame, and its end. -/
theorem frame_ends_applyDelta_setR8 {d : Delta} (z : R8) (v : Byte) (s : State) (hregs : d.regs = []) (hmem : d.mem = [])
    (hsp : d.sp = none) (hpc : d.pc = none) (hlen : d.len ≠ 0) (hcontrol : deltaControl d = {}) :
    Frame s (applyDelta (d.setR8 s z v) s) (regs8 z) (flagsWritten d) false (stored8 s z) ∧
    Ends s (applyDelta (d.setR8 s z v) s) (after s d.len) d.cost (auto s) := by
  obtain ⟨⟩ := d
  cases hregs
  cases hmem
  cases hsp
  cases z <;> exact ⟨frame_applyDelta _ s, ends_of_fallsThrough hcontrol (nextPc_of_fallsThrough s hpc hlen)⟩

/-- Settles O50. -/
theorem rotateShiftSwap : Obligations.RotateShiftSwap := by
  intro op z s
  rw [exec_rot, ← r8_eq, ← r8Cost_eq]
  exact ⟨encode_rot op z, _, (rotate8 op (s.r8 z) s.flags.c).1, rfl, fun _ hk => getLsbD_rotate8 op (s.r8 z) s.flags.c hk,
    holds8_applyDelta_setR8 _ z _ s, flag_applyDelta_setR8 _ z _ s .z rfl, flag_applyDelta_setR8 _ z _ s .n rfl,
    flag_applyDelta_setR8 _ z _ s .h rfl,
    (flag_applyDelta_setR8 _ z _ s .c rfl).trans (rotate8_carry op (s.r8 z) s.flags.c),
    frame_ends_applyDelta_setR8 z _ s rfl rfl rfl rfl two_ne_zero rfl⟩

/-! ### Single bits -/

/-- Settles O51: the delta names three flags and nothing else. -/
theorem bitTestOnlyWritesFlags : Obligations.BitTestOnlyWritesFlags := by
  intro b z s
  obtain ⟨hencode, -⟩ := encode_bitNumber b z
  obtain ⟨hexec, -⟩ := exec_bitNumber b z s
  rw [hexec, ← r8_eq, ← r8Cost_eq]
  exact ⟨hencode, _, rfl, flag_applyDelta _ s .z rfl, flag_applyDelta _ s .n rfl, flag_applyDelta _ s .h rfl,
    frame_applyDelta _ s, ends_of_fallsThrough rfl rfl⟩

/-- RES and SET are the single-bit write of 0 and of 1 (R363, R365). -/
theorem resetBit_setBit_eq (b : BitVec 3) (v : Byte) :
    resetBit b v = putBit v b.toNat false ∧ setBit b v = putBit v b.toNat true :=
  ⟨rfl, rfl⟩

/-- An instruction that writes one bit of an r8 operand. -/
theorem commit_putBit (n : Nat) (x : Bool) (z : R8) (s : State) :
    ∃ (t : State) (res : Byte),
      commit (({ len := 2, cost := r8Cost z 8 16 } : Delta).setR8 s z (putBit (s.r8 z) n x)) s = .next t ∧
      (∀ k, k < 8 → res.getLsbD k = if k = n then x else (s.r8 z).getLsbD k) ∧ Holds8 s t z res ∧
      Frame s t (regs8 z) [] false (stored8 s z) ∧ Ends s t (after s 2) (r8Cost z 8 16) (auto s) :=
  ⟨_, putBit (s.r8 z) n x, rfl, fun k hk => getLsbD_putBit (s.r8 z) n k x hk, holds8_applyDelta_setR8 _ z _ s,
    frame_ends_applyDelta_setR8 z _ s rfl rfl rfl rfl two_ne_zero rfl⟩

/-- Settles O52. -/
theorem bitResetAndSet : Obligations.BitResetAndSet := by
  intro b z s
  obtain ⟨-, hencodeRes, hencodeSet⟩ := encode_bitNumber b z
  obtain ⟨-, hexecRes, hexecSet⟩ := exec_bitNumber b z s
  obtain ⟨hres, hset⟩ := resetBit_setBit_eq b (s.r8 z)
  rw [hexecRes, hexecSet, resetR8, setR8Bit, hres, hset, ← r8_eq, ← r8Cost_eq]
  exact ⟨⟨hencodeRes, commit_putBit b.toNat false z s⟩, ⟨hencodeSet, commit_putBit b.toNat true z s⟩⟩

end Sys2Proof.Proofs
end

