-- ==== Sys2Proof/Proofs/Transfer.lean ====
section
/-! PROOFS. Proofs/Transfer.lean: jumps, calls, returns and restarts (46_control.md). -/

namespace Sys2Proof.Proofs

open Sys2Proof.Machine Sys2Proof.Claims

/-! ### The claims' words and the model's -/

theorem stateCond_eq (s : State) (cc : Cond) : s.cond cc = cond s cc := by
  cases cc <;> rfl

/-- The target of JR is the signed byte added to the address after the instruction (R384). -/
theorem relativeTarget_eq (e : Byte) (s : State) : relativeTarget e s = relative s e :=
  add_sext16 (after s 2) e

/-! ### The transfers by their fields -/

theorem encode_jpCC_jrCC (cc : Cond) (a : Word) (e : Byte) :
    encode (.jpCC cc a) = [6#3 ++ cc.code ++ 2#3, lo a, hi a] ∧ encode (.jrCC cc e) = [1#3 ++ cc.code ++ 0#3, e] := by
  cases cc <;> exact ⟨rfl, rfl⟩

theorem encode_callCC (cc : Cond) (a : Word) : encode (.callCC cc a) = [6#3 ++ cc.code ++ 4#3, lo a, hi a] := by
  cases cc <;> rfl

theorem encode_retCC (cc : Cond) : encode (.retCC cc) = [6#3 ++ cc.code ++ 0#3] := by
  cases cc <;> rfl

/-- By the claims' condition, a conditional jump is the unconditional one or falls through (R382, R385). -/
theorem exec_jpCC_jrCC (cc : Cond) (a : Word) (e : Byte) (s : State) :
    exec (.jpCC cc a) s = (if cond s cc then jumpTo 3 16 a s else notTaken 3 12 s) ∧
    exec (.jrCC cc e) s = (if cond s cc then jumpTo 2 12 (relativeTarget e s) s else notTaken 2 8 s) := by
  rw [← stateCond_eq, ← jumpIf_eq, ← jumpRelativeIf_eq]
  cases cc <;> exact ⟨rfl, rfl⟩

theorem exec_callCC (cc : Cond) (a : Word) (s : State) :
    exec (.callCC cc a) s = if cond s cc then callTo 3 24 a s else notTaken 3 12 s := by
  rw [← stateCond_eq, ← callIf_eq]
  cases cc <;> rfl

theorem exec_retCC (cc : Cond) (s : State) :
    exec (.retCC cc) s = if cond s cc then returnFromCall 20 s else notTaken 1 8 s := by
  rw [← stateCond_eq, ← returnIf_eq]
  cases cc <;> rfl

theorem encode_rst (y : BitVec 3) : encode (.rst y) = [3#2 ++ y ++ 7#3] := by
  rcases bitVec3_cases y with rfl | rfl | rfl | rfl | rfl | rfl | rfl | rfl <;> rfl

theorem exec_rst (y : BitVec 3) (s : State) : exec (.rst y) s = callTo 1 16 (BitVec.ofNat 16 (8 * y.toNat)) s := by
  rcases bitVec3_cases y with rfl | rfl | rfl | rfl | rfl | rfl | rfl | rfl <;> rfl

/-! ### What each transfer does -/

/-- A delta with a target and without any control part ends there, and IME makes the automatic transition (R41, R137). -/
theorem ends_of_target {d : Delta} {s : State} {target : Word} (h : deltaControl d = {}) (hpc : d.pc = some target) :
    Ends s (applyDelta d s) target d.cost (auto s) :=
  ends_of_fallsThrough h (by rw [nextPc, hpc])

/-- A jump writes PC and nothing else. -/
theorem jumpTo_instruction (len cost : Nat) (target : Word) (s : State) :
    ∃ t, jumpTo len cost target s = .next t ∧ Frame s t [] [] false [] ∧ Ends s t target cost (auto s) :=
  ⟨_, rfl, frame_applyDelta _ s, ends_of_target rfl rfl⟩

/-- A conditional transfer that is not taken only skips its own bytes. -/
theorem notTaken_instruction {len : Nat} (hlen : len ≠ 0) (cost : Nat) (s : State) :
    ∃ t, notTaken len cost s = .next t ∧ Frame s t [] [] false [] ∧ Ends s t (after s len) cost (auto s) :=
  ⟨_, rfl, frame_applyDelta _ s, ends_of_fallsThrough rfl (nextPc_of_fallsThrough s rfl hlen)⟩

/-- A call pushes the address after itself, as PUSH does a pair (R380, R386). -/
theorem callTo_instruction (len cost : Nat) (target : Word) (s : State) :
    ∃ t, callTo len cost target s = .next t ∧ t.sp = s.sp - 2 ∧
      t.read (s.sp - 1) = hi (after s len) ∧ t.read (s.sp - 2) = lo (after s len) ∧
      Frame s t [] [] true [s.sp - 1, s.sp - 2] ∧ Ends s t target cost (auto s) := by
  obtain ⟨hhi, hlo⟩ := read_writeAll_pushEdits s.mem s.sp (after s len)
  exact ⟨_, rfl, rfl, hhi, hlo, frame_applyDelta _ s, ends_of_target rfl rfl⟩

/-- A return pops PC (R388). -/
theorem returnFromCall_instruction (cost : Nat) (s : State) :
    ∃ t, returnFromCall cost s = .next t ∧ t.sp = s.sp + 2 ∧ Frame s t [] [] true [] ∧
      Ends s t (pair (s.read (s.sp + 1)) (s.read s.sp)) cost (auto s) :=
  ⟨_, rfl, rfl, frame_applyDelta _ s, ends_of_target rfl rfl⟩

/-- RETI pops PC like RET, and its explicit IME transition wins over the automatic one (R46, R390). -/
theorem exec_reti (s : State) :
    ∃ t, exec .reti s = .next t ∧ t.sp = s.sp + 2 ∧ Frame s t [] [] true [] ∧
      Ends s t (pair (s.read (s.sp + 1)) (s.read s.sp)) 16 .set :=
  ⟨_, rfl, rfl, frame_applyDelta _ s, ends_applyDelta _ s rfl⟩

/-! ### Taken or not -/

/-- A conditional jump, absolute or relative. -/
theorem jumpTo_or_notTaken_instruction (taken : Bool) {len : Nat} (hlen : len ≠ 0) (costTaken costNot : Nat) (target : Word)
    (s : State) :
    ∃ t, (if taken then jumpTo len costTaken target s else notTaken len costNot s) = .next t ∧ Frame s t [] [] false [] ∧
      Ends s t (if taken then target else after s len) (if taken then costTaken else costNot) (auto s) := by
  cases taken with
  | false => exact notTaken_instruction hlen costNot s
  | true => exact jumpTo_instruction len costTaken target s

/-- What holds after each outcome of a conditional transfer holds after the transfer, each under its condition. -/
theorem exists_ite_next {taken : Bool} {o p : Out} {P Q : State → Prop} (ho : ∃ t, o = .next t ∧ P t) (hp : ∃ t, p = .next t ∧ Q t) :
    ∃ t, (if taken then o else p) = .next t ∧ (taken = true → P t) ∧ (taken = false → Q t) := by
  cases taken with
  | false => simpa using hp
  | true => simpa using ho

/-! ### The statements -/

/-- Settles O53: the three jumps differ in the target. -/
theorem jump : Obligations.Jump := by
  intro a e s
  rw [← relativeTarget_eq]
  exact ⟨⟨rfl, jumpTo_instruction 3 16 a s⟩, ⟨rfl, jumpTo_instruction 1 4 s.hl s⟩,
    ⟨rfl, jumpTo_instruction 2 12 (relativeTarget e s) s⟩⟩

/-- Settles O54: each is a jump or falls through. -/
theorem conditionalJump : Obligations.ConditionalJump := by
  intro cc a e s
  obtain ⟨hencodeJp, hencodeJr⟩ := encode_jpCC_jrCC cc a e
  obtain ⟨hexecJp, hexecJr⟩ := exec_jpCC_jrCC cc a e s
  rw [hexecJp, hexecJr, ← relativeTarget_eq]
  exact ⟨⟨hencodeJp, jumpTo_or_notTaken_instruction _ three_ne_zero 16 12 a s⟩,
    ⟨hencodeJr, jumpTo_or_notTaken_instruction _ two_ne_zero 12 8 (relativeTarget e s) s⟩⟩

/-- Settles O55: RST is a one-byte call of a fixed address. -/
theorem callPushesReturnAddress : Obligations.CallPushesReturnAddress := by
  intro a y s
  rw [exec_rst]
  exact ⟨⟨rfl, callTo_instruction 3 24 a s⟩, ⟨encode_rst y, callTo_instruction 1 16 (BitVec.ofNat 16 (8 * y.toNat)) s⟩⟩

/-- Settles O56: a call or a fall-through, by the condition. -/
theorem conditionalCall : Obligations.ConditionalCall := by
  intro cc a s
  rw [exec_callCC]
  exact ⟨encode_callCC cc a, exists_ite_next (callTo_instruction 3 24 a s) (notTaken_instruction three_ne_zero 12 s)⟩

/-- Settles O57: RET cc is a return or falls through. -/
theorem returnPopsProgramCounter : Obligations.ReturnPopsProgramCounter := by
  intro cc s
  rw [exec_retCC]
  exact ⟨⟨rfl, returnFromCall_instruction 16 s⟩, ⟨rfl, exec_reti s⟩,
    ⟨encode_retCC cc, exists_ite_next (returnFromCall_instruction 20 s) (notTaken_instruction one_ne_zero 8 s)⟩⟩

end Sys2Proof.Proofs
end

