-- ==== Sys2Proof/Proofs/System.lean ====
section
/-! PROOFS. Proofs/System.lean: NOP, DI, EI, HALT, STOP and the undefined opcodes (47_system.md), and the wake out of STOP. -/

namespace Sys2Proof.Proofs

open Sys2Proof.Machine Sys2Proof.Claims

/-! ### NOP, DI and EI -/

/-- A one-byte instruction that at most has an explicit IME transition (R410, R413, R414). -/
theorem commit_ime (i : Option IME) (s : State) :
    ∃ t, commit { len := 1, cost := 4, ime := i } s = .next t ∧ Frame s t [] [] false [] ∧
      Ends s t (after s 1) 4 (nextIme i s.ime) :=
  ⟨_, rfl, frame_applyDelta _ s, ends_applyDelta _ s rfl⟩

/-- EI writes IME only from Unset; from Scheduled the automatic transition has set it (R41, R414). -/
theorem nextIme_ei (i : IME) :
    nextIme (if i = .unset then some .scheduled else none) i = if i = .unset then .scheduled else .set := by
  cases i <;> rfl

/-- Settles O58: the three differ in the explicit IME transition. -/
theorem nopAndInterruptEnable : Obligations.NopAndInterruptEnable := by
  intro s
  rw [auto_eq_autoIme, ← nextIme_ei]
  exact ⟨⟨rfl, commit_ime none s⟩, ⟨rfl, commit_ime (some .unset) s⟩, ⟨rfl, commit_ime _ s⟩⟩

/-! ### HALT and STOP -/

theorem haltBug_iff (s : State) : haltBug s = true ↔ auto s ≠ .set ∧ pend s ≠ 0#8 := by
  simp [haltBug]

/-- HALT sets the latch if the claims' condition for the halt bug holds, and halts if not. -/
theorem exec_halt (s : State) :
    exec .halt s = commit { len := 1, cost := 4, halt := !haltBug s, haltbug := haltBug s } s := by
  rw [haltBug, auto_eq_autoIme]
  rfl

/-- Settles O59, HALT by its condition. -/
theorem haltAndStop : Obligations.HaltAndStop := by
  intro n s
  rw [exec_halt, ← haltBug_iff, auto_eq_autoIme]
  refine ⟨⟨rfl, _, rfl, frame_applyDelta _ s, rfl, rfl, rfl, Bool.or_false _, Bool.or_false _, ?bug, ?noBug⟩,
    ⟨rfl, _, rfl, frame_applyDelta _ s, rfl, rfl, rfl, rfl, Bool.or_false _, Bool.or_false _, Bool.or_true _⟩⟩
  case bug =>
    intro hbug
    simp [hbug]
  case noBug =>
    intro hbug
    simp [hbug]

/-! ### The way out of `stopped` -/

theorem step_of_stopped {s : State} (h : s.stopped = true) : step s = .next (noStep s) := by
  cases hlocked : s.locked with
  | true => exact step_of_locked hlocked
  | false => simp [step, driverStep, hlocked, h]

/-- Settles O15: the step is STOP, with the first-step rule around it (O11), and STOP leaves `halted` and `locked` alone (O59). -/
theorem stopWakeResumesAfterStop : Obligations.StopWakeResumesAfterStop := by
  intro n s active hquiet hcurrent
  obtain ⟨-, -, t, hexec, -, hpc, -, -, -, hhalted, hlocked, hstopped⟩ := haltAndStop n s
  have hstep : step s = .next (ended s t) := stepRunsDecodedInstruction s t active hquiet (hcurrent ▸ hexec)
  obtain ⟨hunlocked, -, hawake⟩ := active
  have hresumes : Active (stopWake (ended s t)) := ⟨hlocked.trans hunlocked, rfl, hhalted.trans hawake⟩
  exact ⟨ended s t, hstep, hstopped, step_of_stopped hstopped, rfl, hresumes, hpc⟩

/-! ### The undefined opcodes -/

theorem map_exec_undefined (s : State) :
    Instr.undefined.map (fun i => exec i s) = List.replicate 11 (undefinedOpcode s) := rfl

theorem exec_of_mem_undefined {i : Instr} (h : i ∈ Instr.undefined) (s : State) : exec i s = undefinedOpcode s :=
  List.eq_of_mem_replicate (map_exec_undefined s ▸ List.mem_map_of_mem (f := fun i => exec i s) h)

/-- Settles O60: the 11 opcodes have one meaning, whose delta can only lock the core. -/
theorem undefinedOpcodeIsZeroLengthNoOp : Obligations.UndefinedOpcodeIsZeroLengthNoOp := by
  intro i s h
  rw [exec_of_mem_undefined h, auto_eq_autoIme]
  exact ⟨_, rfl, frame_applyDelta _ s, rfl, rfl, rfl, rfl, Bool.or_false _, Bool.or_false _, rfl⟩

end Sys2Proof.Proofs
end

