-- ==== Sys2Proof/Proofs/Exceptions.lean ====
section
/-! PROOFS. Proofs/Exceptions.lean: what a step answers in each wait state, an interrupt taken, and the wait states and the halt-bug latch
(60_exceptions.md). -/

namespace Sys2Proof.Proofs

open Sys2Proof.Machine Sys2Proof.Claims

/-! ### The answer of a step -/

/-- Settles O13. -/
theorem stoppedOrLockedDoesNothing : Obligations.StoppedOrLockedDoesNothing := by
  intro s h
  rcases h with hstopped | hlocked
  · exact step_of_stopped hstopped
  · exact step_of_locked hlocked

/-- An active step answers a next state, which the halt wake makes dearer and does not change otherwise (R441). -/
theorem activeStep_next (s : State) : ∃ t, ∀ wake, activeStep wake s = .next (addWake wake t) := by
  cases hd : dispatches s with
  | true => exact ⟨takeInterrupt s, fun wake => by rw [activeStep, hd]; rfl⟩
  | false =>
    obtain ⟨d, hexec⟩ := exec_applies_delta (decodeBytes s.fetchOpcode s.fetchB1 s.fetchB2) s
    refine ⟨endInstructionStep s (applyDelta d s), fun wake => ?_⟩
    rw [activeStep, hd, instructionStep, instructionStepOn, hexec]
    rfl

theorem step_eq_activeStep {s : State} (active : Active s) : step s = activeStep 0 s := by
  obtain ⟨hlocked, hstopped, hhalted⟩ := active
  simp [step, driverStep, hlocked, hstopped, hhalted]

/-- A halted core idles, or takes the step of the awake core (R441). -/
theorem step_of_halted {s : State} (hlocked : s.locked = false) (hstopped : s.stopped = false) (hhalted : s.halted = true) :
    step s = if pend s = 0#8 then .next (idleStep s) else activeStep 4 (wakeUp s) := by
  simp only [step, driverStep, hlocked, hstopped, hhalted]
  rfl

/-- Settles O16: the woken core is active, and its step differs in the wake's T-states alone. -/
theorem haltedCoreIdlesOrWakes : Obligations.HaltedCoreIdlesOrWakes := by
  intro s hlocked hstopped hhalted
  rw [step_of_halted hlocked hstopped hhalted]
  constructor
  · intro hidle
    rw [if_pos hidle]
    rfl
  · intro hpend
    obtain ⟨t, hactive⟩ := activeStep_next (wakeUp s)
    have awake : Active (wakeUp s) := ⟨hlocked, hstopped, rfl⟩
    refine ⟨t, ?_, ?_⟩
    · exact (step_eq_activeStep awake).trans (hactive 0)
    · rw [if_neg hpend]
      exact hactive 4

/-- A step of every state answers a next state, by the wait state of the core (R430, R452). -/
theorem step_next (s : State) : ∃ t, step s = .next t := by
  by_cases hwait : s.stopped = true ∨ s.locked = true
  · exact ⟨_, stoppedOrLockedDoesNothing s hwait⟩
  · obtain ⟨hstopped, hlocked⟩ : s.stopped = false ∧ s.locked = false := by simpa using hwait
    cases hhalted : s.halted with
    | false =>
      obtain ⟨t, hactive⟩ := activeStep_next s
      exact ⟨_, (step_eq_activeStep ⟨hlocked, hstopped, hhalted⟩).trans (hactive 0)⟩
    | true =>
      obtain ⟨hidle, hwake⟩ := haltedCoreIdlesOrWakes s hlocked hstopped hhalted
      by_cases hpend : pend s = 0#8
      · exact ⟨_, hidle hpend⟩
      · obtain ⟨t, -, hstep⟩ := hwake hpend
        exact ⟨_, hstep⟩

/-- Settles O12: every instruction applies a delta, and every step has its answer. -/
theorem nothingFaults : Obligations.NothingFaults := by
  refine ⟨fun i s => ?_, step_next⟩
  obtain ⟨d, hexec⟩ := exec_applies_delta i s
  exact ⟨applyDelta d s, hexec⟩

/-! ### Taking an interrupt -/

theorem step_of_dispatches {s : State} (active : Active s) (hd : dispatches s = true) : step s = .next (takeInterrupt s) := by
  rw [step_eq_activeStep active, activeStep, hd]
  rfl

/-- A dispatch pushes PC after it clears the IF bit, so the pushed bytes are what is read (R438). -/
theorem read_takeInterrupt_pushed (s : State) :
    (takeInterrupt s).read (s.sp - 1) = hi s.pc ∧ (takeInterrupt s).read (s.sp - 2) = lo s.pc :=
  read_writeAll_pushEdits (s.mem.write ifAddr (putBit (s.read ifAddr) (lowestPending s.pending) false)) s.sp s.pc

/-- IF loses the bit of the source served, unless a pushed byte lies on it (R438). -/
theorem read_takeInterrupt_if {s : State} (hhi : s.sp - 1 ≠ ifAddr) (hlo : s.sp - 2 ≠ ifAddr) :
    (takeInterrupt s).read ifAddr = putBit (s.read ifAddr) (lowestPending s.pending) false :=
  read_writeAll_last s.mem [] _ (List.forall_mem_cons.mpr ⟨hhi, List.forall_mem_singleton.mpr hlo⟩)

/-- A dispatch writes SP, IF and the two bytes of the stack only; A, F and the other registers are not saved and not changed (R438). -/
theorem frame_takeInterrupt (s : State) : Frame s (takeInterrupt s) [] [] true [ifAddr, s.sp - 1, s.sp - 2] where
  reg r _ := takeInterrupt_reg s r
  flag x _ := by cases x <;> rfl
  sp h := nomatch h
  mem a h := Memory.read_writeAll_of_notMem s.mem (dispatchEdits (lowestPending s.pending) s) a fun _ he hea =>
    h (hea ▸ List.mem_map_of_mem (f := Prod.fst) he)
  firstStep := rfl
  cfg := rfl

/-- Settles O17, with the source served the lowest pending one (R437). -/
theorem dispatchTakesLowestPending : Obligations.DispatchTakesLowestPending := by
  intro s active hime hpend
  have hd : dispatches s = true := (dispatches_iff s).mpr ⟨hime, hpend⟩
  obtain ⟨hlt, hbit, hlower⟩ := lowestPending_spec s.pending (by rwa [pending_and_mask])
  obtain ⟨hhi, hlo⟩ := read_takeInterrupt_pushed s
  have hstep : step s = .next (takeInterrupt s) := step_of_dispatches active hd
  obtain ⟨hlocked, hstopped, -⟩ := active
  refine ⟨takeInterrupt s, lowestPending s.pending, hstep, hlt, hbit, hlower, hhi, hlo, ?ifBits, rfl,
    frame_takeInterrupt s, ?vector, rfl, rfl, rfl, hstopped, hlocked, rfl⟩
  case ifBits =>
    intro hneHi hneLo k hk
    exact (congrArg (·.getLsbD k) (read_takeInterrupt_if hneHi hneLo)).trans (getLsbD_putBit _ _ k false hk)
  case vector => exact (BitVec.ofNat_add 0x40 _).symm

/-! ### The wait states and the halt-bug latch -/

/-- The wait states that an instruction enters, and the latch that it sets (R48, R411, R412, R415). -/
theorem control_waits (i : Instr) (s : State) :
    (control i s).halt = (decide (i = .halt) && !haltBug s) ∧ (control i s).haltbug = (decide (i = .halt) && haltBug s) ∧
    (control i s).stop = isStop i ∧
    (control i s).lock = (decide (i ∈ Instr.undefined) && decide (s.cfg.undefPolicy = .lock)) := by
  have hundefined : Instr.di ∉ Instr.undefined ∧ Instr.reti ∉ Instr.undefined ∧ Instr.ei ∉ Instr.undefined ∧
    Instr.halt ∉ Instr.undefined := by decide
  unfold control
  split
  case h_1 | h_2 | h_3 | h_4 => simp [isStop, hundefined]
  case h_5 => simp [isStop, Instr.undefined]
  case h_6 hhalt _ => simp [isStop, decide_eq_false hhalt]

/-- Settles O21, from the control part of every instruction. -/
theorem waitStatesAreEnteredOnlyAsStated : Obligations.WaitStatesAreEnteredOnlyAsStated := by
  intro i s
  obtain ⟨d, hexec, hcontrol, -⟩ := exec_controls i s
  obtain ⟨hhalt, hlatch, hstop, hlock⟩ := control_waits i s
  rw [← hcontrol] at hhalt hlatch hstop hlock
  exact ⟨applyDelta d s, hexec, congrArg (s.halted || ·) hhalt, hlatch, congrArg (s.stopped || ·) hstop,
    congrArg (s.locked || ·) hlock⟩

/-- Under the invariant a core with the latch set is active, and IME is Unset (R411, R436). -/
theorem active_of_haltbug {s : State} (hs : s.Inv) (hlatch : s.haltbug = true) : Active s := by
  have hawake : (s.halted || s.stopped || s.locked) = false :=
    Bool.eq_false_iff.mpr fun hwait => Bool.false_ne_true ((hs.waitLatch hwait).symm.trans hlatch)
  obtain ⟨⟨hhalted, hstopped⟩, hlocked⟩ : (s.halted = false ∧ s.stopped = false) ∧ s.locked = false := by simpa using hawake
  exact ⟨hlocked, hstopped, hhalted⟩

/-- Settles O25: the latched core is active with IME Unset, so it does not dispatch, and only HALT sets the latch again (O21). -/
theorem latchedStepRunsInstruction : Obligations.LatchedStepRunsInstruction := by
  intro s hs hlatch
  have hd : dispatches s = false := by simp [dispatches, hs.haltbugIme hlatch]
  obtain ⟨t, hexec, -, hlatched, -⟩ := waitStatesAreEnteredOnlyAsStated (current s) s
  refine ⟨t, hexec, step_of_active (active_of_haltbug hs hlatch) hd hexec, fun hne => ?_⟩
  simpa [hne] using hlatched

end Sys2Proof.Proofs
end

