-- ==== Sys2Proof/Proofs/Reset.lean ====
section
/-! PROOFS. Proofs/Reset.lean: the state that reset leaves, and that it has the invariant (70_reset_and_hazards.md). -/

namespace Sys2Proof.Proofs

open Sys2Proof.Machine Sys2Proof.Claims

/-- The low nibble of F holds no flag (R34). -/
theorem fromByte_and_highNibble (v : Byte) : FlagSet.fromByte (v &&& 0xF0#8) = FlagSet.fromByte v := by
  rw [← toByte_fromByte, fromByte_toByte]

/-- The flags after reset are those of RESET_REGS, whose F is reduced to its high nibble (R482, R484). -/
theorem flags_resetWith (cfg : Config) : (State.resetWith cfg).flags = FlagSet.fromByte cfg.resetRegs.f :=
  fromByte_and_highNibble cfg.resetRegs.f

/-- The last entry of RESET_MEM for an address is what the address reads as after reset (R486, log 3). -/
theorem read_resetWith_last {cfg : Config} {before rest : List (Word × Byte)} {a : Word} {v : Byte}
    (hlist : cfg.resetMem = before ++ (a, v) :: rest) (hlast : ∀ e ∈ rest, e.1 ≠ a) : (State.resetWith cfg).read a = v := by
  have hmem : (State.resetWith cfg).mem = Memory.writeAll [] (before ++ (a, v) :: rest) := congrArg (Memory.writeAll []) hlist
  rw [State.read, hmem, read_writeAll_last [] before v hlast]

/-- Settles O10: each field is read off the state that reset builds, but for the flags and the bytes that RESET_MEM lists. -/
theorem resetLeavesSpecifiedState : Obligations.ResetLeavesSpecifiedState := by
  refine ⟨fun old => ?anyParameters, rfl, ?dmgPostBoot⟩
  case anyParameters =>
    have hflags := flags_resetWith old.cfg
    exact ⟨hostReset old, rfl, rfl, rfl, rfl, rfl, rfl, rfl, rfl, rfl, rfl, rfl, rfl, rfl,
      congrArg FlagSet.z hflags, congrArg FlagSet.n hflags, congrArg FlagSet.h hflags, congrArg FlagSet.c hflags,
      rfl, rfl, rfl, rfl, rfl, fun _ _ _ _ => read_resetWith_last⟩
  case dmgPostBoot => exact ⟨_, rfl, rfl, rfl, rfl, rfl, rfl, rfl, rfl, rfl, rfl, rfl, rfl⟩

/-- Settles O23, at every value of the parameters and so at the defaults. -/
theorem resetHasInv : Obligations.ResetHasInv := ⟨inv_resetWith, inv_resetWith Config.default⟩

end Sys2Proof.Proofs
end
